-- ==== Sys2Proof/Word.lean ====
section
/-! DEFINITION. The widths of the machine: a byte is the unit of the bus (00 R8 `DATA_WIDTH` = 8), a word is an
address or a register pair (00 R8 `ADDR_WIDTH` = 16). `+` and `-` on both wrap, as 00 R11's `add8` and `add16`. -/

namespace Sys2Proof

/-- 00 R9 `u8`: an unsigned 8-bit value. -/
abbrev Byte := BitVec 8

/-- 00 R9 `u16`: an unsigned 16-bit value. -/
abbrev Word := BitVec 16

end Sys2Proof
end

