-- ==== Sys2Proof/Machine/Bytes.lean ====
section
/-! DEFINITION. The helpers on bytes and words of 00 R10 and R11: halves, concatenation, extension. -/

namespace Sys2Proof.Machine

/-- 00 R10: `hi(w) = w[15:8]`. -/
def hiByte (w : Word) : Byte := w.extractLsb' 8 8

/-- 00 R10: `lo(w) = w[7:0]`. -/
def loByte (w : Word) : Byte := w.extractLsb' 0 8

/-- 00 R10: the concatenation `{h,l}`, `h` the more significant half. -/
def joinBytes (h l : Byte) : Word := h ++ l

/-- 00 R11: `sext_8(v)`, the byte read as two's complement, as a 16-bit value. -/
def signExt (v : Byte) : Word := v.signExtend 16

/-- 00 R11: `zext_16(v)`. -/
def zeroExt (v : Byte) : Word := v.setWidth 16

end Sys2Proof.Machine
end

