-- ==== Sys2Proof/Syntax.lean ====
section
/-! DEFINITION. The instructions as terms: the names the operand tables of 30 R112 to R117 give, `Instr` with one
constructor for each of the 561 rows of spec/opcode_table.json, and the forms (a family of rows as one function of its
operands), which statements use to speak of a family at once. -/

namespace Sys2Proof

/-- The registers of 30 R112's table `R8`: every entry but selector 6, the memory operand. -/
inductive Reg8 where
  | b | c | d | e | h | l | a
deriving DecidableEq, Repr

/-- An operand selected by `R8` (30 R112): a register, `(HL)`, or `(IX+d)` under the index prefix. -/
inductive Loc where
  | reg (r : Reg8)
  | atHL
  | atIX (d : Byte)
deriving DecidableEq, Repr

/-- 30 R117 `SRC8`: the right operand of the eight accumulator operations. -/
inductive AluSrc where
  | loc (l : Loc)
  | imm (n : Byte)
deriving DecidableEq, Repr

/-- The 16-bit registers an instruction names: 30 R113's `RP` with and without the index prefix. -/
inductive Reg16 where
  | bc | de | hl | sp | ix
deriving DecidableEq, Repr

/-- An index into 30 R113's table `RP`; its third entry is `HL`, or `IX` under the index prefix. -/
inductive Pair where
  | bc | de | third | sp
deriving DecidableEq, Repr

/-- 30 R114 `RP2`: what `PUSH` and `POP` name, with and without the index prefix. -/
inductive StackReg where
  | bc | de | hl | af | ix
deriving DecidableEq, Repr

/-- 41 R192 `HLX`: the pair the index prefix swaps. -/
inductive HLX where
  | hl | ix
deriving DecidableEq, Repr

/-- 30 R115 `CC`. -/
inductive Cond where
  | nz | z | nc | c | po | pe | p | m
deriving DecidableEq, Repr

/-- The conditions of a relative jump: `CC[y-4]` for `y` in 4..7 (30 R115). -/
inductive RelCond where
  | nz | z | nc | c
deriving DecidableEq, Repr

/-- 30 R116 `ALU`. -/
inductive AluOp where
  | add | adc | sub | sbc | and | xor | or | cp
deriving DecidableEq, Repr

/-- 30 R116 `ROT` without its undefined entry 6. -/
inductive RotOp where
  | rlc | rrc | rl | rr | sla | sra | srl
deriving DecidableEq, Repr

/-- The three-bit field `y` of an opcode (30 R100): a bit number of 45 R300 to R302, or an eighth of a restart target
of 46 R330. -/
inductive Oct where
  | y0 | y1 | y2 | y3 | y4 | y5 | y6 | y7
deriving DecidableEq, Repr

/-- The value of the field. -/
def Oct.toNat : Oct → Nat
  | .y0 => 0 | .y1 => 1 | .y2 => 2 | .y3 => 3 | .y4 => 4 | .y5 => 5 | .y6 => 6 | .y7 => 7

/-- 10 R37 `IM`: one of 0, 1, 2. -/
inductive IntMode where
  | im0 | im1 | im2
deriving DecidableEq, Repr

/-- The decode state inside a step (10 R47, 41 R190): which prefixes are active, and the displacement byte once the
composed form has fetched it. It selects one of the four tables. -/
inductive PrefixState where
  /-- no prefix active: the main table, 30 R118 -/
  | none
  /-- after 0xDD: the index table, 30 R124 -/
  | index
  /-- after 0xCB: the bit table, 30 R125 -/
  | bit
  /-- after 0xDD 0xCB d: the index+bit table, 30 R126 -/
  | indexBit (d : Byte)
deriving DecidableEq, Repr

/-- One constructor for each row of spec/opcode_table.json (30 R132). Fields: `n` an immediate byte or a port, `d` a
displacement byte, `nn` a 16-bit immediate or address (30 R104). In a name, `AtHL`, `AtBC`, `AtDE` is the memory byte
at the pair, `IXd` the byte at `IX+d`, `Mem` the memory at `nn`. The two rows for prefix bytes are the engine's act on
a prefix byte (30 R121, R122), not complete instructions (47 R349). Rows with operand bytes stand first: Lean's runtime gives a
constructor with fields a small number only. -/
inductive Instr where
  -- main table, 30 R118: rows with operand bytes
  | ldBC_nn (nn : Word)
  | ldB_n (n : Byte)
  | ldC_n (n : Byte)
  | djnz (d : Byte)
  | ldDE_nn (nn : Word)
  | ldD_n (n : Byte)
  | jr (d : Byte)
  | ldE_n (n : Byte)
  | jrNZ (d : Byte)
  | ldHL_nn (nn : Word)
  | ldMem_HL (nn : Word)
  | ldH_n (n : Byte)
  | jrZ (d : Byte)
  | ldHL_mem (nn : Word)
  | ldL_n (n : Byte)
  | jrNC (d : Byte)
  | ldSP_nn (nn : Word)
  | ldMem_A (nn : Word)
  | ldAtHL_n (n : Byte)
  | jrC (d : Byte)
  | ldA_mem (nn : Word)
  | ldA_n (n : Byte)
  | addA_n (n : Byte)
  | adcA_n (n : Byte)
  | subA_n (n : Byte)
  | sbcA_n (n : Byte)
  | andA_n (n : Byte)
  | xorA_n (n : Byte)
  | orA_n (n : Byte)
  | cpA_n (n : Byte)
  | jpNZ (nn : Word)
  | jp (nn : Word)
  | callNZ (nn : Word)
  | jpZ (nn : Word)
  | callZ (nn : Word)
  | call (nn : Word)
  | jpNC (nn : Word)
  | outPort_A (n : Byte)
  | callNC (nn : Word)
  | jpC (nn : Word)
  | inA_port (n : Byte)
  | callC (nn : Word)
  | jpPO (nn : Word)
  | callPO (nn : Word)
  | jpPE (nn : Word)
  | callPE (nn : Word)
  | jpP (nn : Word)
  | callP (nn : Word)
  | jpM (nn : Word)
  | callM (nn : Word)
  -- index table, 30 R124: rows with operand bytes
  | ldIX_nn (nn : Word)
  | ldMem_IX (nn : Word)
  | ldIX_mem (nn : Word)
  | incIXd (d : Byte)
  | decIXd (d : Byte)
  | ldIXd_n (d : Byte) (n : Byte)
  | ldB_IXd (d : Byte)
  | ldC_IXd (d : Byte)
  | ldD_IXd (d : Byte)
  | ldE_IXd (d : Byte)
  | ldH_IXd (d : Byte)
  | ldL_IXd (d : Byte)
  | ldIXd_B (d : Byte)
  | ldIXd_C (d : Byte)
  | ldIXd_D (d : Byte)
  | ldIXd_E (d : Byte)
  | ldIXd_H (d : Byte)
  | ldIXd_L (d : Byte)
  | ldIXd_A (d : Byte)
  | ldA_IXd (d : Byte)
  | addA_IXd (d : Byte)
  | adcA_IXd (d : Byte)
  | subA_IXd (d : Byte)
  | sbcA_IXd (d : Byte)
  | andA_IXd (d : Byte)
  | xorA_IXd (d : Byte)
  | orA_IXd (d : Byte)
  | cpA_IXd (d : Byte)
  -- index+bit table, 30 R126: rows with operand bytes
  | rlcIXd (d : Byte)
  | rrcIXd (d : Byte)
  | rlIXd (d : Byte)
  | rrIXd (d : Byte)
  | slaIXd (d : Byte)
  | sraIXd (d : Byte)
  | srlIXd (d : Byte)
  | bit0_IXd (d : Byte)
  | bit1_IXd (d : Byte)
  | bit2_IXd (d : Byte)
  | bit3_IXd (d : Byte)
  | bit4_IXd (d : Byte)
  | bit5_IXd (d : Byte)
  | bit6_IXd (d : Byte)
  | bit7_IXd (d : Byte)
  | res0_IXd (d : Byte)
  | res1_IXd (d : Byte)
  | res2_IXd (d : Byte)
  | res3_IXd (d : Byte)
  | res4_IXd (d : Byte)
  | res5_IXd (d : Byte)
  | res6_IXd (d : Byte)
  | res7_IXd (d : Byte)
  | set0_IXd (d : Byte)
  | set1_IXd (d : Byte)
  | set2_IXd (d : Byte)
  | set3_IXd (d : Byte)
  | set4_IXd (d : Byte)
  | set5_IXd (d : Byte)
  | set6_IXd (d : Byte)
  | set7_IXd (d : Byte)
  -- main table, 30 R118: rows without operand bytes
  | nop
  | ldAtBC_A
  | incBC
  | incB
  | decB
  | exAF
  | addHL_BC
  | ldA_atBC
  | decBC
  | incC
  | decC
  | ldAtDE_A
  | incDE
  | incD
  | decD
  | addHL_DE
  | ldA_atDE
  | decDE
  | incE
  | decE
  | incHL
  | incH
  | decH
  | addHL_HL
  | decHL
  | incL
  | decL
  | cpl
  | incSP
  | incAtHL
  | decAtHL
  | scf
  | addHL_SP
  | decSP
  | incA
  | decA
  | ccf
  | ldB_B
  | ldB_C
  | ldB_D
  | ldB_E
  | ldB_H
  | ldB_L
  | ldB_atHL
  | ldB_A
  | ldC_B
  | ldC_C
  | ldC_D
  | ldC_E
  | ldC_H
  | ldC_L
  | ldC_atHL
  | ldC_A
  | ldD_B
  | ldD_C
  | ldD_D
  | ldD_E
  | ldD_H
  | ldD_L
  | ldD_atHL
  | ldD_A
  | ldE_B
  | ldE_C
  | ldE_D
  | ldE_E
  | ldE_H
  | ldE_L
  | ldE_atHL
  | ldE_A
  | ldH_B
  | ldH_C
  | ldH_D
  | ldH_E
  | ldH_H
  | ldH_L
  | ldH_atHL
  | ldH_A
  | ldL_B
  | ldL_C
  | ldL_D
  | ldL_E
  | ldL_H
  | ldL_L
  | ldL_atHL
  | ldL_A
  | ldAtHL_B
  | ldAtHL_C
  | ldAtHL_D
  | ldAtHL_E
  | ldAtHL_H
  | ldAtHL_L
  | halt
  | ldAtHL_A
  | ldA_B
  | ldA_C
  | ldA_D
  | ldA_E
  | ldA_H
  | ldA_L
  | ldA_atHL
  | ldA_A
  | addA_B
  | addA_D
  | addA_E
  | addA_H
  | addA_L
  | addA_atHL
  | addA_A
  | adcA_B
  | adcA_D
  | adcA_E
  | adcA_H
  | adcA_L
  | adcA_atHL
  | adcA_A
  | subA_B
  | subA_D
  | subA_E
  | subA_H
  | subA_L
  | subA_atHL
  | subA_A
  | sbcA_B
  | sbcA_D
  | sbcA_E
  | sbcA_H
  | sbcA_L
  | sbcA_atHL
  | sbcA_A
  | andA_B
  | andA_D
  | andA_E
  | andA_H
  | andA_L
  | andA_atHL
  | andA_A
  | xorA_B
  | xorA_D
  | xorA_E
  | xorA_H
  | xorA_L
  | xorA_atHL
  | xorA_A
  | orA_B
  | orA_D
  | orA_E
  | orA_H
  | orA_L
  | orA_atHL
  | orA_A
  | cpA_B
  | cpA_D
  | cpA_E
  | cpA_H
  | cpA_L
  | cpA_atHL
  | cpA_A
  | retNZ
  | popBC
  | pushBC
  | im0
  | rst00
  | retZ
  | ret
  | bitPrefix
  | im1
  | rst08
  | retNC
  | popDE
  | pushDE
  | im2
  | rst10
  | retC
  | exx
  | indexPrefix
  | ldI_A
  | rst18
  | retPO
  | popHL
  | pushHL
  | reti
  | rst20
  | retPE
  | jpHL
  | rst28
  | retP
  | popAF
  | di
  | pushAF
  | rst30
  | retM
  | ldSP_HL
  | ei
  | rst38
  -- bit table, 30 R125: rows without operand bytes
  | rlcB
  | rlcC
  | rlcD
  | rlcE
  | rlcH
  | rlcL
  | rlcAtHL
  | rlcA
  | rrcB
  | rrcC
  | rrcD
  | rrcE
  | rrcH
  | rrcL
  | rrcAtHL
  | rrcA
  | rlB
  | rlC
  | rlD
  | rlE
  | rlH
  | rlL
  | rlAtHL
  | rlA
  | rrB
  | rrC
  | rrD
  | rrE
  | rrH
  | rrL
  | rrAtHL
  | rrA
  | slaB
  | slaC
  | slaD
  | slaE
  | slaH
  | slaL
  | slaAtHL
  | slaA
  | sraB
  | sraC
  | sraD
  | sraE
  | sraH
  | sraL
  | sraAtHL
  | sraA
  | srlB
  | srlC
  | srlD
  | srlE
  | srlH
  | srlL
  | srlAtHL
  | srlA
  | bit0_B
  | bit0_C
  | bit0_D
  | bit0_E
  | bit0_H
  | bit0_L
  | bit0_atHL
  | bit0_A
  | bit1_B
  | bit1_C
  | bit1_D
  | bit1_E
  | bit1_H
  | bit1_L
  | bit1_atHL
  | bit1_A
  | bit2_B
  | bit2_C
  | bit2_D
  | bit2_E
  | bit2_H
  | bit2_L
  | bit2_atHL
  | bit2_A
  | bit3_B
  | bit3_C
  | bit3_D
  | bit3_E
  | bit3_H
  | bit3_L
  | bit3_atHL
  | bit3_A
  | bit4_B
  | bit4_C
  | bit4_D
  | bit4_E
  | bit4_H
  | bit4_L
  | bit4_atHL
  | bit4_A
  | bit5_B
  | bit5_C
  | bit5_D
  | bit5_E
  | bit5_H
  | bit5_L
  | bit5_atHL
  | bit5_A
  | bit6_B
  | bit6_C
  | bit6_D
  | bit6_E
  | bit6_H
  | bit6_L
  | bit6_atHL
  | bit6_A
  | bit7_B
  | bit7_C
  | bit7_D
  | bit7_E
  | bit7_H
  | bit7_L
  | bit7_atHL
  | bit7_A
  | res0_B
  | res0_C
  | res0_D
  | res0_E
  | res0_H
  | res0_L
  | res0_atHL
  | res0_A
  | res1_B
  | res1_C
  | res1_D
  | res1_E
  | res1_H
  | res1_L
  | res1_atHL
  | res1_A
  | res2_B
  | res2_C
  | res2_D
  | res2_E
  | res2_H
  | res2_L
  | res2_atHL
  | res2_A
  | res3_B
  | res3_C
  | res3_D
  | res3_E
  | res3_H
  | res3_L
  | res3_atHL
  | res3_A
  | res4_B
  | res4_C
  | res4_D
  | res4_E
  | res4_H
  | res4_L
  | res4_atHL
  | res4_A
  | res5_B
  | res5_C
  | res5_D
  | res5_E
  | res5_H
  | res5_L
  | res5_atHL
  | res5_A
  | res6_B
  | res6_C
  | res6_D
  | res6_E
  | res6_H
  | res6_L
  | res6_atHL
  | res6_A
  | res7_B
  | res7_C
  | res7_D
  | res7_E
  | res7_H
  | res7_L
  | res7_atHL
  | res7_A
  | set0_B
  | set0_C
  | set0_D
  | set0_E
  | set0_H
  | set0_L
  | set0_atHL
  | set0_A
  | set1_B
  | set1_C
  | set1_D
  | set1_E
  | set1_H
  | set1_L
  | set1_atHL
  | set1_A
  | set2_B
  | set2_C
  | set2_D
  | set2_E
  | set2_H
  | set2_L
  | set2_atHL
  | set2_A
  | set3_B
  | set3_C
  | set3_D
  | set3_E
  | set3_H
  | set3_L
  | set3_atHL
  | set3_A
  | set4_B
  | set4_C
  | set4_D
  | set4_E
  | set4_H
  | set4_L
  | set4_atHL
  | set4_A
  | set5_B
  | set5_C
  | set5_D
  | set5_E
  | set5_H
  | set5_L
  | set5_atHL
  | set5_A
  | set6_B
  | set6_C
  | set6_D
  | set6_E
  | set6_H
  | set6_L
  | set6_atHL
  | set6_A
  | set7_B
  | set7_C
  | set7_D
  | set7_E
  | set7_H
  | set7_L
  | set7_atHL
  | set7_A
  -- index table, 30 R124: rows without operand bytes
  | addIX_BC
  | addIX_DE
  | incIX
  | addIX_IX
  | decIX
  | addIX_SP
  | popIX
  | pushIX
  | jpIX
  | ldSP_IX
deriving DecidableEq, Repr

/-- `LD r,r'`, `LD r,(HL)`, `LD r,(IX+d)` (42 R210, R211). -/
def Form.load8 : Reg8 → Loc → Instr
  | .b, .reg .b => .ldB_B
  | .b, .reg .c => .ldB_C
  | .b, .reg .d => .ldB_D
  | .b, .reg .e => .ldB_E
  | .b, .reg .h => .ldB_H
  | .b, .reg .l => .ldB_L
  | .b, .reg .a => .ldB_A
  | .b, .atHL => .ldB_atHL
  | .b, .atIX d => .ldB_IXd d
  | .c, .reg .b => .ldC_B
  | .c, .reg .c => .ldC_C
  | .c, .reg .d => .ldC_D
  | .c, .reg .e => .ldC_E
  | .c, .reg .h => .ldC_H
  | .c, .reg .l => .ldC_L
  | .c, .reg .a => .ldC_A
  | .c, .atHL => .ldC_atHL
  | .c, .atIX d => .ldC_IXd d
  | .d, .reg .b => .ldD_B
  | .d, .reg .c => .ldD_C
  | .d, .reg .d => .ldD_D
  | .d, .reg .e => .ldD_E
  | .d, .reg .h => .ldD_H
  | .d, .reg .l => .ldD_L
  | .d, .reg .a => .ldD_A
  | .d, .atHL => .ldD_atHL
  | .d, .atIX d => .ldD_IXd d
  | .e, .reg .b => .ldE_B
  | .e, .reg .c => .ldE_C
  | .e, .reg .d => .ldE_D
  | .e, .reg .e => .ldE_E
  | .e, .reg .h => .ldE_H
  | .e, .reg .l => .ldE_L
  | .e, .reg .a => .ldE_A
  | .e, .atHL => .ldE_atHL
  | .e, .atIX d => .ldE_IXd d
  | .h, .reg .b => .ldH_B
  | .h, .reg .c => .ldH_C
  | .h, .reg .d => .ldH_D
  | .h, .reg .e => .ldH_E
  | .h, .reg .h => .ldH_H
  | .h, .reg .l => .ldH_L
  | .h, .reg .a => .ldH_A
  | .h, .atHL => .ldH_atHL
  | .h, .atIX d => .ldH_IXd d
  | .l, .reg .b => .ldL_B
  | .l, .reg .c => .ldL_C
  | .l, .reg .d => .ldL_D
  | .l, .reg .e => .ldL_E
  | .l, .reg .h => .ldL_H
  | .l, .reg .l => .ldL_L
  | .l, .reg .a => .ldL_A
  | .l, .atHL => .ldL_atHL
  | .l, .atIX d => .ldL_IXd d
  | .a, .reg .b => .ldA_B
  | .a, .reg .c => .ldA_C
  | .a, .reg .d => .ldA_D
  | .a, .reg .e => .ldA_E
  | .a, .reg .h => .ldA_H
  | .a, .reg .l => .ldA_L
  | .a, .reg .a => .ldA_A
  | .a, .atHL => .ldA_atHL
  | .a, .atIX d => .ldA_IXd d

/-- `LD (HL),r` (42 R211). -/
def Form.storeHL : Reg8 → Instr
  | .b => .ldAtHL_B
  | .c => .ldAtHL_C
  | .d => .ldAtHL_D
  | .e => .ldAtHL_E
  | .h => .ldAtHL_H
  | .l => .ldAtHL_L
  | .a => .ldAtHL_A

/-- `LD (IX+d),r` (42 R211). -/
def Form.storeIX (d : Byte) : Reg8 → Instr
  | .b => .ldIXd_B d
  | .c => .ldIXd_C d
  | .d => .ldIXd_D d
  | .e => .ldIXd_E d
  | .h => .ldIXd_H d
  | .l => .ldIXd_L d
  | .a => .ldIXd_A d

/-- `LD r,n`, `LD (HL),n`, `LD (IX+d),n` (42 R212). -/
def Form.loadImm (n : Byte) : Loc → Instr
  | .reg .b => .ldB_n n
  | .reg .c => .ldC_n n
  | .reg .d => .ldD_n n
  | .reg .e => .ldE_n n
  | .reg .h => .ldH_n n
  | .reg .l => .ldL_n n
  | .reg .a => .ldA_n n
  | .atHL => .ldAtHL_n n
  | .atIX d => .ldIXd_n d n

/-- `LD rp,nn`, `LD IX,nn` (42 R220). -/
def Form.loadPair (nn : Word) : Reg16 → Instr
  | .bc => .ldBC_nn nn
  | .de => .ldDE_nn nn
  | .hl => .ldHL_nn nn
  | .sp => .ldSP_nn nn
  | .ix => .ldIX_nn nn

/-- `LD HL,(nn)`, `LD IX,(nn)` (42 R221). -/
def Form.loadMem16 (nn : Word) : HLX → Instr
  | .hl => .ldHL_mem nn
  | .ix => .ldIX_mem nn

/-- `LD (nn),HL`, `LD (nn),IX` (42 R222). -/
def Form.storeMem16 (nn : Word) : HLX → Instr
  | .hl => .ldMem_HL nn
  | .ix => .ldMem_IX nn

/-- `LD SP,HL`, `LD SP,IX` (42 R224). -/
def Form.loadSP : HLX → Instr
  | .hl => .ldSP_HL
  | .ix => .ldSP_IX

/-- `PUSH rp2`, `PUSH IX` (42 R230). -/
def Form.push : StackReg → Instr
  | .bc => .pushBC
  | .de => .pushDE
  | .hl => .pushHL
  | .af => .pushAF
  | .ix => .pushIX

/-- `POP rp2`, `POP IX` (42 R231). -/
def Form.pop : StackReg → Instr
  | .bc => .popBC
  | .de => .popDE
  | .hl => .popHL
  | .af => .popAF
  | .ix => .popIX

/-- `ALU A,src` (43 R250 to R257). There is no form with register `C`: 30 R117 puts the immediate at `z=1`. -/
def Form.alu : AluOp → AluSrc → Option Instr
  | .add, .loc (.reg .b) => some (.addA_B)
  | .add, .loc (.reg .d) => some (.addA_D)
  | .add, .loc (.reg .e) => some (.addA_E)
  | .add, .loc (.reg .h) => some (.addA_H)
  | .add, .loc (.reg .l) => some (.addA_L)
  | .add, .loc (.reg .a) => some (.addA_A)
  | .add, .loc (.atHL) => some (.addA_atHL)
  | .add, .loc (.atIX d) => some (.addA_IXd d)
  | .add, .imm n => some (.addA_n n)
  | .adc, .loc (.reg .b) => some (.adcA_B)
  | .adc, .loc (.reg .d) => some (.adcA_D)
  | .adc, .loc (.reg .e) => some (.adcA_E)
  | .adc, .loc (.reg .h) => some (.adcA_H)
  | .adc, .loc (.reg .l) => some (.adcA_L)
  | .adc, .loc (.reg .a) => some (.adcA_A)
  | .adc, .loc (.atHL) => some (.adcA_atHL)
  | .adc, .loc (.atIX d) => some (.adcA_IXd d)
  | .adc, .imm n => some (.adcA_n n)
  | .sub, .loc (.reg .b) => some (.subA_B)
  | .sub, .loc (.reg .d) => some (.subA_D)
  | .sub, .loc (.reg .e) => some (.subA_E)
  | .sub, .loc (.reg .h) => some (.subA_H)
  | .sub, .loc (.reg .l) => some (.subA_L)
  | .sub, .loc (.reg .a) => some (.subA_A)
  | .sub, .loc (.atHL) => some (.subA_atHL)
  | .sub, .loc (.atIX d) => some (.subA_IXd d)
  | .sub, .imm n => some (.subA_n n)
  | .sbc, .loc (.reg .b) => some (.sbcA_B)
  | .sbc, .loc (.reg .d) => some (.sbcA_D)
  | .sbc, .loc (.reg .e) => some (.sbcA_E)
  | .sbc, .loc (.reg .h) => some (.sbcA_H)
  | .sbc, .loc (.reg .l) => some (.sbcA_L)
  | .sbc, .loc (.reg .a) => some (.sbcA_A)
  | .sbc, .loc (.atHL) => some (.sbcA_atHL)
  | .sbc, .loc (.atIX d) => some (.sbcA_IXd d)
  | .sbc, .imm n => some (.sbcA_n n)
  | .and, .loc (.reg .b) => some (.andA_B)
  | .and, .loc (.reg .d) => some (.andA_D)
  | .and, .loc (.reg .e) => some (.andA_E)
  | .and, .loc (.reg .h) => some (.andA_H)
  | .and, .loc (.reg .l) => some (.andA_L)
  | .and, .loc (.reg .a) => some (.andA_A)
  | .and, .loc (.atHL) => some (.andA_atHL)
  | .and, .loc (.atIX d) => some (.andA_IXd d)
  | .and, .imm n => some (.andA_n n)
  | .xor, .loc (.reg .b) => some (.xorA_B)
  | .xor, .loc (.reg .d) => some (.xorA_D)
  | .xor, .loc (.reg .e) => some (.xorA_E)
  | .xor, .loc (.reg .h) => some (.xorA_H)
  | .xor, .loc (.reg .l) => some (.xorA_L)
  | .xor, .loc (.reg .a) => some (.xorA_A)
  | .xor, .loc (.atHL) => some (.xorA_atHL)
  | .xor, .loc (.atIX d) => some (.xorA_IXd d)
  | .xor, .imm n => some (.xorA_n n)
  | .or, .loc (.reg .b) => some (.orA_B)
  | .or, .loc (.reg .d) => some (.orA_D)
  | .or, .loc (.reg .e) => some (.orA_E)
  | .or, .loc (.reg .h) => some (.orA_H)
  | .or, .loc (.reg .l) => some (.orA_L)
  | .or, .loc (.reg .a) => some (.orA_A)
  | .or, .loc (.atHL) => some (.orA_atHL)
  | .or, .loc (.atIX d) => some (.orA_IXd d)
  | .or, .imm n => some (.orA_n n)
  | .cp, .loc (.reg .b) => some (.cpA_B)
  | .cp, .loc (.reg .d) => some (.cpA_D)
  | .cp, .loc (.reg .e) => some (.cpA_E)
  | .cp, .loc (.reg .h) => some (.cpA_H)
  | .cp, .loc (.reg .l) => some (.cpA_L)
  | .cp, .loc (.reg .a) => some (.cpA_A)
  | .cp, .loc (.atHL) => some (.cpA_atHL)
  | .cp, .loc (.atIX d) => some (.cpA_IXd d)
  | .cp, .imm n => some (.cpA_n n)
  | _, .loc (.reg .c) => none

/-- `INC r`, `INC (HL)`, `INC (IX+d)` (43 R262). -/
def Form.inc8 : Loc → Instr
  | .reg .b => .incB
  | .reg .c => .incC
  | .reg .d => .incD
  | .reg .e => .incE
  | .reg .h => .incH
  | .reg .l => .incL
  | .reg .a => .incA
  | .atHL => .incAtHL
  | .atIX d => .incIXd d

/-- `DEC r`, `DEC (HL)`, `DEC (IX+d)` (43 R263). -/
def Form.dec8 : Loc → Instr
  | .reg .b => .decB
  | .reg .c => .decC
  | .reg .d => .decD
  | .reg .e => .decE
  | .reg .h => .decH
  | .reg .l => .decL
  | .reg .a => .decA
  | .atHL => .decAtHL
  | .atIX d => .decIXd d

/-- `INC rp`, `INC IX` (43 R272). -/
def Form.inc16 : Reg16 → Instr
  | .bc => .incBC
  | .de => .incDE
  | .hl => .incHL
  | .sp => .incSP
  | .ix => .incIX

/-- `DEC rp`, `DEC IX` (43 R273). -/
def Form.dec16 : Reg16 → Instr
  | .bc => .decBC
  | .de => .decDE
  | .hl => .decHL
  | .sp => .decSP
  | .ix => .decIX

/-- `ADD HL,rp`, `ADD IX,rp` (43 R270, R271); `RP[2]` is the destination's pair (30 R113). -/
def Form.add16 : HLX → Pair → Instr
  | .hl, .bc => .addHL_BC
  | .hl, .de => .addHL_DE
  | .hl, .third => .addHL_HL
  | .hl, .sp => .addHL_SP
  | .ix, .bc => .addIX_BC
  | .ix, .de => .addIX_DE
  | .ix, .third => .addIX_IX
  | .ix, .sp => .addIX_SP

/-- The rotates and shifts (45 R290 to R296). -/
def Form.rot : RotOp → Loc → Instr
  | .rlc, .reg .b => .rlcB
  | .rlc, .reg .c => .rlcC
  | .rlc, .reg .d => .rlcD
  | .rlc, .reg .e => .rlcE
  | .rlc, .reg .h => .rlcH
  | .rlc, .reg .l => .rlcL
  | .rlc, .reg .a => .rlcA
  | .rlc, .atHL => .rlcAtHL
  | .rlc, .atIX d => .rlcIXd d
  | .rrc, .reg .b => .rrcB
  | .rrc, .reg .c => .rrcC
  | .rrc, .reg .d => .rrcD
  | .rrc, .reg .e => .rrcE
  | .rrc, .reg .h => .rrcH
  | .rrc, .reg .l => .rrcL
  | .rrc, .reg .a => .rrcA
  | .rrc, .atHL => .rrcAtHL
  | .rrc, .atIX d => .rrcIXd d
  | .rl, .reg .b => .rlB
  | .rl, .reg .c => .rlC
  | .rl, .reg .d => .rlD
  | .rl, .reg .e => .rlE
  | .rl, .reg .h => .rlH
  | .rl, .reg .l => .rlL
  | .rl, .reg .a => .rlA
  | .rl, .atHL => .rlAtHL
  | .rl, .atIX d => .rlIXd d
  | .rr, .reg .b => .rrB
  | .rr, .reg .c => .rrC
  | .rr, .reg .d => .rrD
  | .rr, .reg .e => .rrE
  | .rr, .reg .h => .rrH
  | .rr, .reg .l => .rrL
  | .rr, .reg .a => .rrA
  | .rr, .atHL => .rrAtHL
  | .rr, .atIX d => .rrIXd d
  | .sla, .reg .b => .slaB
  | .sla, .reg .c => .slaC
  | .sla, .reg .d => .slaD
  | .sla, .reg .e => .slaE
  | .sla, .reg .h => .slaH
  | .sla, .reg .l => .slaL
  | .sla, .reg .a => .slaA
  | .sla, .atHL => .slaAtHL
  | .sla, .atIX d => .slaIXd d
  | .sra, .reg .b => .sraB
  | .sra, .reg .c => .sraC
  | .sra, .reg .d => .sraD
  | .sra, .reg .e => .sraE
  | .sra, .reg .h => .sraH
  | .sra, .reg .l => .sraL
  | .sra, .reg .a => .sraA
  | .sra, .atHL => .sraAtHL
  | .sra, .atIX d => .sraIXd d
  | .srl, .reg .b => .srlB
  | .srl, .reg .c => .srlC
  | .srl, .reg .d => .srlD
  | .srl, .reg .e => .srlE
  | .srl, .reg .h => .srlH
  | .srl, .reg .l => .srlL
  | .srl, .reg .a => .srlA
  | .srl, .atHL => .srlAtHL
  | .srl, .atIX d => .srlIXd d

/-- `BIT y,r` (45 R300). -/
def Form.bit : Oct → Loc → Instr
  | .y0, .reg .b => .bit0_B
  | .y0, .reg .c => .bit0_C
  | .y0, .reg .d => .bit0_D
  | .y0, .reg .e => .bit0_E
  | .y0, .reg .h => .bit0_H
  | .y0, .reg .l => .bit0_L
  | .y0, .reg .a => .bit0_A
  | .y0, .atHL => .bit0_atHL
  | .y0, .atIX d => .bit0_IXd d
  | .y1, .reg .b => .bit1_B
  | .y1, .reg .c => .bit1_C
  | .y1, .reg .d => .bit1_D
  | .y1, .reg .e => .bit1_E
  | .y1, .reg .h => .bit1_H
  | .y1, .reg .l => .bit1_L
  | .y1, .reg .a => .bit1_A
  | .y1, .atHL => .bit1_atHL
  | .y1, .atIX d => .bit1_IXd d
  | .y2, .reg .b => .bit2_B
  | .y2, .reg .c => .bit2_C
  | .y2, .reg .d => .bit2_D
  | .y2, .reg .e => .bit2_E
  | .y2, .reg .h => .bit2_H
  | .y2, .reg .l => .bit2_L
  | .y2, .reg .a => .bit2_A
  | .y2, .atHL => .bit2_atHL
  | .y2, .atIX d => .bit2_IXd d
  | .y3, .reg .b => .bit3_B
  | .y3, .reg .c => .bit3_C
  | .y3, .reg .d => .bit3_D
  | .y3, .reg .e => .bit3_E
  | .y3, .reg .h => .bit3_H
  | .y3, .reg .l => .bit3_L
  | .y3, .reg .a => .bit3_A
  | .y3, .atHL => .bit3_atHL
  | .y3, .atIX d => .bit3_IXd d
  | .y4, .reg .b => .bit4_B
  | .y4, .reg .c => .bit4_C
  | .y4, .reg .d => .bit4_D
  | .y4, .reg .e => .bit4_E
  | .y4, .reg .h => .bit4_H
  | .y4, .reg .l => .bit4_L
  | .y4, .reg .a => .bit4_A
  | .y4, .atHL => .bit4_atHL
  | .y4, .atIX d => .bit4_IXd d
  | .y5, .reg .b => .bit5_B
  | .y5, .reg .c => .bit5_C
  | .y5, .reg .d => .bit5_D
  | .y5, .reg .e => .bit5_E
  | .y5, .reg .h => .bit5_H
  | .y5, .reg .l => .bit5_L
  | .y5, .reg .a => .bit5_A
  | .y5, .atHL => .bit5_atHL
  | .y5, .atIX d => .bit5_IXd d
  | .y6, .reg .b => .bit6_B
  | .y6, .reg .c => .bit6_C
  | .y6, .reg .d => .bit6_D
  | .y6, .reg .e => .bit6_E
  | .y6, .reg .h => .bit6_H
  | .y6, .reg .l => .bit6_L
  | .y6, .reg .a => .bit6_A
  | .y6, .atHL => .bit6_atHL
  | .y6, .atIX d => .bit6_IXd d
  | .y7, .reg .b => .bit7_B
  | .y7, .reg .c => .bit7_C
  | .y7, .reg .d => .bit7_D
  | .y7, .reg .e => .bit7_E
  | .y7, .reg .h => .bit7_H
  | .y7, .reg .l => .bit7_L
  | .y7, .reg .a => .bit7_A
  | .y7, .atHL => .bit7_atHL
  | .y7, .atIX d => .bit7_IXd d

/-- `RES y,r` (45 R301). -/
def Form.res : Oct → Loc → Instr
  | .y0, .reg .b => .res0_B
  | .y0, .reg .c => .res0_C
  | .y0, .reg .d => .res0_D
  | .y0, .reg .e => .res0_E
  | .y0, .reg .h => .res0_H
  | .y0, .reg .l => .res0_L
  | .y0, .reg .a => .res0_A
  | .y0, .atHL => .res0_atHL
  | .y0, .atIX d => .res0_IXd d
  | .y1, .reg .b => .res1_B
  | .y1, .reg .c => .res1_C
  | .y1, .reg .d => .res1_D
  | .y1, .reg .e => .res1_E
  | .y1, .reg .h => .res1_H
  | .y1, .reg .l => .res1_L
  | .y1, .reg .a => .res1_A
  | .y1, .atHL => .res1_atHL
  | .y1, .atIX d => .res1_IXd d
  | .y2, .reg .b => .res2_B
  | .y2, .reg .c => .res2_C
  | .y2, .reg .d => .res2_D
  | .y2, .reg .e => .res2_E
  | .y2, .reg .h => .res2_H
  | .y2, .reg .l => .res2_L
  | .y2, .reg .a => .res2_A
  | .y2, .atHL => .res2_atHL
  | .y2, .atIX d => .res2_IXd d
  | .y3, .reg .b => .res3_B
  | .y3, .reg .c => .res3_C
  | .y3, .reg .d => .res3_D
  | .y3, .reg .e => .res3_E
  | .y3, .reg .h => .res3_H
  | .y3, .reg .l => .res3_L
  | .y3, .reg .a => .res3_A
  | .y3, .atHL => .res3_atHL
  | .y3, .atIX d => .res3_IXd d
  | .y4, .reg .b => .res4_B
  | .y4, .reg .c => .res4_C
  | .y4, .reg .d => .res4_D
  | .y4, .reg .e => .res4_E
  | .y4, .reg .h => .res4_H
  | .y4, .reg .l => .res4_L
  | .y4, .reg .a => .res4_A
  | .y4, .atHL => .res4_atHL
  | .y4, .atIX d => .res4_IXd d
  | .y5, .reg .b => .res5_B
  | .y5, .reg .c => .res5_C
  | .y5, .reg .d => .res5_D
  | .y5, .reg .e => .res5_E
  | .y5, .reg .h => .res5_H
  | .y5, .reg .l => .res5_L
  | .y5, .reg .a => .res5_A
  | .y5, .atHL => .res5_atHL
  | .y5, .atIX d => .res5_IXd d
  | .y6, .reg .b => .res6_B
  | .y6, .reg .c => .res6_C
  | .y6, .reg .d => .res6_D
  | .y6, .reg .e => .res6_E
  | .y6, .reg .h => .res6_H
  | .y6, .reg .l => .res6_L
  | .y6, .reg .a => .res6_A
  | .y6, .atHL => .res6_atHL
  | .y6, .atIX d => .res6_IXd d
  | .y7, .reg .b => .res7_B
  | .y7, .reg .c => .res7_C
  | .y7, .reg .d => .res7_D
  | .y7, .reg .e => .res7_E
  | .y7, .reg .h => .res7_H
  | .y7, .reg .l => .res7_L
  | .y7, .reg .a => .res7_A
  | .y7, .atHL => .res7_atHL
  | .y7, .atIX d => .res7_IXd d

/-- `SET y,r` (45 R302). -/
def Form.set : Oct → Loc → Instr
  | .y0, .reg .b => .set0_B
  | .y0, .reg .c => .set0_C
  | .y0, .reg .d => .set0_D
  | .y0, .reg .e => .set0_E
  | .y0, .reg .h => .set0_H
  | .y0, .reg .l => .set0_L
  | .y0, .reg .a => .set0_A
  | .y0, .atHL => .set0_atHL
  | .y0, .atIX d => .set0_IXd d
  | .y1, .reg .b => .set1_B
  | .y1, .reg .c => .set1_C
  | .y1, .reg .d => .set1_D
  | .y1, .reg .e => .set1_E
  | .y1, .reg .h => .set1_H
  | .y1, .reg .l => .set1_L
  | .y1, .reg .a => .set1_A
  | .y1, .atHL => .set1_atHL
  | .y1, .atIX d => .set1_IXd d
  | .y2, .reg .b => .set2_B
  | .y2, .reg .c => .set2_C
  | .y2, .reg .d => .set2_D
  | .y2, .reg .e => .set2_E
  | .y2, .reg .h => .set2_H
  | .y2, .reg .l => .set2_L
  | .y2, .reg .a => .set2_A
  | .y2, .atHL => .set2_atHL
  | .y2, .atIX d => .set2_IXd d
  | .y3, .reg .b => .set3_B
  | .y3, .reg .c => .set3_C
  | .y3, .reg .d => .set3_D
  | .y3, .reg .e => .set3_E
  | .y3, .reg .h => .set3_H
  | .y3, .reg .l => .set3_L
  | .y3, .reg .a => .set3_A
  | .y3, .atHL => .set3_atHL
  | .y3, .atIX d => .set3_IXd d
  | .y4, .reg .b => .set4_B
  | .y4, .reg .c => .set4_C
  | .y4, .reg .d => .set4_D
  | .y4, .reg .e => .set4_E
  | .y4, .reg .h => .set4_H
  | .y4, .reg .l => .set4_L
  | .y4, .reg .a => .set4_A
  | .y4, .atHL => .set4_atHL
  | .y4, .atIX d => .set4_IXd d
  | .y5, .reg .b => .set5_B
  | .y5, .reg .c => .set5_C
  | .y5, .reg .d => .set5_D
  | .y5, .reg .e => .set5_E
  | .y5, .reg .h => .set5_H
  | .y5, .reg .l => .set5_L
  | .y5, .reg .a => .set5_A
  | .y5, .atHL => .set5_atHL
  | .y5, .atIX d => .set5_IXd d
  | .y6, .reg .b => .set6_B
  | .y6, .reg .c => .set6_C
  | .y6, .reg .d => .set6_D
  | .y6, .reg .e => .set6_E
  | .y6, .reg .h => .set6_H
  | .y6, .reg .l => .set6_L
  | .y6, .reg .a => .set6_A
  | .y6, .atHL => .set6_atHL
  | .y6, .atIX d => .set6_IXd d
  | .y7, .reg .b => .set7_B
  | .y7, .reg .c => .set7_C
  | .y7, .reg .d => .set7_D
  | .y7, .reg .e => .set7_E
  | .y7, .reg .h => .set7_H
  | .y7, .reg .l => .set7_L
  | .y7, .reg .a => .set7_A
  | .y7, .atHL => .set7_atHL
  | .y7, .atIX d => .set7_IXd d

/-- `JP cc,nn` (46 R311). -/
def Form.jumpCond (nn : Word) : Cond → Instr
  | .nz => .jpNZ nn
  | .z => .jpZ nn
  | .nc => .jpNC nn
  | .c => .jpC nn
  | .po => .jpPO nn
  | .pe => .jpPE nn
  | .p => .jpP nn
  | .m => .jpM nn

/-- `JP (HL)`, `JP (IX)` (46 R312). -/
def Form.jumpReg : HLX → Instr
  | .hl => .jpHL
  | .ix => .jpIX

/-- `JR cc,d` (46 R315). -/
def Form.jumpRelCond (d : Byte) : RelCond → Instr
  | .nz => .jrNZ d
  | .z => .jrZ d
  | .nc => .jrNC d
  | .c => .jrC d

/-- `CALL cc,nn` (46 R321). -/
def Form.callCond (nn : Word) : Cond → Instr
  | .nz => .callNZ nn
  | .z => .callZ nn
  | .nc => .callNC nn
  | .c => .callC nn
  | .po => .callPO nn
  | .pe => .callPE nn
  | .p => .callP nn
  | .m => .callM nn

/-- `RET cc` (46 R325). -/
def Form.retCond : Cond → Instr
  | .nz => .retNZ
  | .z => .retZ
  | .nc => .retNC
  | .c => .retC
  | .po => .retPO
  | .pe => .retPE
  | .p => .retP
  | .m => .retM

/-- `RST t` with `t = y*8` (46 R330). -/
def Form.restart : Oct → Instr
  | .y0 => .rst00
  | .y1 => .rst08
  | .y2 => .rst10
  | .y3 => .rst18
  | .y4 => .rst20
  | .y5 => .rst28
  | .y6 => .rst30
  | .y7 => .rst38

/-- `IM m` (47 R346). -/
def Form.intMode : IntMode → Instr
  | .im0 => .im0
  | .im1 => .im1
  | .im2 => .im2

end Sys2Proof
end

