-- ==== Sys2Proof/WellFormed.lean ====
section
/-! DEFINITION. Which terms of `Instr` are complete instructions. Every operand field is a whole byte or word (30 R103:
"there are no sub-byte immediate fields"), so the only terms that are not complete instructions are the two prefix
bytes: 47 R349, "The prefix bytes 0xDD and 0xCB are not instructions". -/

namespace Sys2Proof

/-- The two prefix rows of the opcode table (30 R121, R122). -/
def Instr.isPrefix : Instr → Bool
  | .bitPrefix => true
  | .indexPrefix => true
  | _ => false

/-- A complete instruction: a term that is not a bare prefix byte (47 R349). -/
def WellFormed (i : Instr) : Bool := !i.isPrefix

end Sys2Proof
end

