-- ==== Sys2Proof/Decode.lean ====
section
/-! DEFINITION. The decoder: the matrix of 30 R100, the four dispatch tables of 30 R118, R124, R125 and R126, and
decoding as a total function on any bytes; then the encoder, written from the patterns of the same tables (30 R103,
R132). -/

namespace Sys2Proof

open Machine (joinBytes loByte hiByte)

/-- The quintuple of 30 R100. -/
structure Quintuple where
  x : Nat
  y : Nat
  z : Nat
  p : Nat
  q : Nat
deriving DecidableEq, Repr

/-- 30 R100: `decode(op)`, the bit fields of an opcode byte. Total and pure, for every byte (30 R101). State holds no
cache of it: a model uses the function (10 R48). -/
def quintuple (op : Byte) : Quintuple where
  x := (op >>> 6 &&& 3).toNat
  y := (op >>> 3 &&& 7).toNat
  z := (op &&& 7).toNat
  p := (op >>> 4 &&& 3).toNat
  q := (op >>> 3 &&& 1).toNat

/-- What a cell of a dispatch table holds: nothing, or the instruction as a function of the operand bytes its format
(30 R103) makes the engine fetch after the opcode byte. -/
inductive Arm where
  /-- no arm: 30 R128 -/
  | undefined
  /-- no operand byte: OP, CB_OP, DD_OP, the opcode byte that ends DD_CB_D_OP, and the prefix bytes -/
  | op (i : Instr)
  /-- OP_N and OP_D: one byte, `n` or a relative jump's `d` -/
  | byte (f : Byte → Instr)
  /-- OP_NN and DD_OP_NN: two bytes, low byte first -/
  | word (f : Word → Instr)
  /-- DD_OP_D: the displacement of `(IX+d)` -/
  | disp (f : Byte → Instr)
  /-- DD_OP_D_N: the displacement, then the immediate -/
  | dispByte (f : Byte → Byte → Instr)

/-- The cell holds nothing. -/
def Arm.isUndefined : Arm → Bool
  | .undefined => true
  | _ => false

/-- The main table's cells with `x = 0`, a row for each `y`, its cells by `z` (30 R118; undefined cells 30 R119). -/
def mainBlock0 : List (List Arm) :=
  [[.op .nop, .word .ldBC_nn, .op .ldAtBC_A, .op .incBC,
    .op .incB, .op .decB, .byte .ldB_n, .undefined],
   [.op .exAF, .op .addHL_BC, .op .ldA_atBC, .op .decBC,
    .op .incC, .op .decC, .byte .ldC_n, .undefined],
   [.byte .djnz, .word .ldDE_nn, .op .ldAtDE_A, .op .incDE,
    .op .incD, .op .decD, .byte .ldD_n, .undefined],
   [.byte .jr, .op .addHL_DE, .op .ldA_atDE, .op .decDE,
    .op .incE, .op .decE, .byte .ldE_n, .undefined],
   [.byte .jrNZ, .word .ldHL_nn, .word .ldMem_HL, .op .incHL,
    .op .incH, .op .decH, .byte .ldH_n, .undefined],
   [.byte .jrZ, .op .addHL_HL, .word .ldHL_mem, .op .decHL,
    .op .incL, .op .decL, .byte .ldL_n, .op .cpl],
   [.byte .jrNC, .word .ldSP_nn, .word .ldMem_A, .op .incSP,
    .op .incAtHL, .op .decAtHL, .byte .ldAtHL_n, .op .scf],
   [.byte .jrC, .op .addHL_SP, .word .ldA_mem, .op .decSP,
    .op .incA, .op .decA, .byte .ldA_n, .op .ccf]]

/-- The main table's cells with `x = 1`, a row for each `y`, its cells by `z` (30 R118; undefined cells 30 R119). -/
def mainBlock1 : List (List Arm) :=
  [[.op .ldB_B, .op .ldB_C, .op .ldB_D, .op .ldB_E,
    .op .ldB_H, .op .ldB_L, .op .ldB_atHL, .op .ldB_A],
   [.op .ldC_B, .op .ldC_C, .op .ldC_D, .op .ldC_E,
    .op .ldC_H, .op .ldC_L, .op .ldC_atHL, .op .ldC_A],
   [.op .ldD_B, .op .ldD_C, .op .ldD_D, .op .ldD_E,
    .op .ldD_H, .op .ldD_L, .op .ldD_atHL, .op .ldD_A],
   [.op .ldE_B, .op .ldE_C, .op .ldE_D, .op .ldE_E,
    .op .ldE_H, .op .ldE_L, .op .ldE_atHL, .op .ldE_A],
   [.op .ldH_B, .op .ldH_C, .op .ldH_D, .op .ldH_E,
    .op .ldH_H, .op .ldH_L, .op .ldH_atHL, .op .ldH_A],
   [.op .ldL_B, .op .ldL_C, .op .ldL_D, .op .ldL_E,
    .op .ldL_H, .op .ldL_L, .op .ldL_atHL, .op .ldL_A],
   [.op .ldAtHL_B, .op .ldAtHL_C, .op .ldAtHL_D, .op .ldAtHL_E,
    .op .ldAtHL_H, .op .ldAtHL_L, .op .halt, .op .ldAtHL_A],
   [.op .ldA_B, .op .ldA_C, .op .ldA_D, .op .ldA_E,
    .op .ldA_H, .op .ldA_L, .op .ldA_atHL, .op .ldA_A]]

/-- The main table's cells with `x = 2`, a row for each `y`, its cells by `z` (30 R118; undefined cells 30 R119). -/
def mainBlock2 : List (List Arm) :=
  [[.op .addA_B, .byte .addA_n, .op .addA_D, .op .addA_E,
    .op .addA_H, .op .addA_L, .op .addA_atHL, .op .addA_A],
   [.op .adcA_B, .byte .adcA_n, .op .adcA_D, .op .adcA_E,
    .op .adcA_H, .op .adcA_L, .op .adcA_atHL, .op .adcA_A],
   [.op .subA_B, .byte .subA_n, .op .subA_D, .op .subA_E,
    .op .subA_H, .op .subA_L, .op .subA_atHL, .op .subA_A],
   [.op .sbcA_B, .byte .sbcA_n, .op .sbcA_D, .op .sbcA_E,
    .op .sbcA_H, .op .sbcA_L, .op .sbcA_atHL, .op .sbcA_A],
   [.op .andA_B, .byte .andA_n, .op .andA_D, .op .andA_E,
    .op .andA_H, .op .andA_L, .op .andA_atHL, .op .andA_A],
   [.op .xorA_B, .byte .xorA_n, .op .xorA_D, .op .xorA_E,
    .op .xorA_H, .op .xorA_L, .op .xorA_atHL, .op .xorA_A],
   [.op .orA_B, .byte .orA_n, .op .orA_D, .op .orA_E,
    .op .orA_H, .op .orA_L, .op .orA_atHL, .op .orA_A],
   [.op .cpA_B, .byte .cpA_n, .op .cpA_D, .op .cpA_E,
    .op .cpA_H, .op .cpA_L, .op .cpA_atHL, .op .cpA_A]]

/-- The main table's cells with `x = 3`, a row for each `y`, its cells by `z` (30 R118; undefined cells 30 R119). -/
def mainBlock3 : List (List Arm) :=
  [[.op .retNZ, .op .popBC, .word .jpNZ, .word .jp,
    .word .callNZ, .op .pushBC, .op .im0, .op .rst00],
   [.op .retZ, .op .ret, .word .jpZ, .op .bitPrefix,
    .word .callZ, .word .call, .op .im1, .op .rst08],
   [.op .retNC, .op .popDE, .word .jpNC, .byte .outPort_A,
    .word .callNC, .op .pushDE, .op .im2, .op .rst10],
   [.op .retC, .op .exx, .word .jpC, .byte .inA_port,
    .word .callC, .op .indexPrefix, .op .ldI_A, .op .rst18],
   [.op .retPO, .op .popHL, .word .jpPO, .undefined,
    .word .callPO, .op .pushHL, .op .reti, .op .rst20],
   [.op .retPE, .op .jpHL, .word .jpPE, .undefined,
    .word .callPE, .undefined, .undefined, .op .rst28],
   [.op .retP, .op .popAF, .word .jpP, .op .di,
    .word .callP, .op .pushAF, .undefined, .op .rst30],
   [.op .retM, .op .ldSP_HL, .word .jpM, .op .ei,
    .word .callM, .undefined, .undefined, .op .rst38]]

/-- The bit table's cells with `x = 0`, a row for each `y`, its cells by `z` (30 R125). -/
def bitBlock0 : List (List Arm) :=
  [[.op .rlcB, .op .rlcC, .op .rlcD, .op .rlcE,
    .op .rlcH, .op .rlcL, .op .rlcAtHL, .op .rlcA],
   [.op .rrcB, .op .rrcC, .op .rrcD, .op .rrcE,
    .op .rrcH, .op .rrcL, .op .rrcAtHL, .op .rrcA],
   [.op .rlB, .op .rlC, .op .rlD, .op .rlE,
    .op .rlH, .op .rlL, .op .rlAtHL, .op .rlA],
   [.op .rrB, .op .rrC, .op .rrD, .op .rrE,
    .op .rrH, .op .rrL, .op .rrAtHL, .op .rrA],
   [.op .slaB, .op .slaC, .op .slaD, .op .slaE,
    .op .slaH, .op .slaL, .op .slaAtHL, .op .slaA],
   [.op .sraB, .op .sraC, .op .sraD, .op .sraE,
    .op .sraH, .op .sraL, .op .sraAtHL, .op .sraA],
   [.undefined, .undefined, .undefined, .undefined,
    .undefined, .undefined, .undefined, .undefined],
   [.op .srlB, .op .srlC, .op .srlD, .op .srlE,
    .op .srlH, .op .srlL, .op .srlAtHL, .op .srlA]]

/-- The bit table's cells with `x = 1`, a row for each `y`, its cells by `z` (30 R125). -/
def bitBlock1 : List (List Arm) :=
  [[.op .bit0_B, .op .bit0_C, .op .bit0_D, .op .bit0_E,
    .op .bit0_H, .op .bit0_L, .op .bit0_atHL, .op .bit0_A],
   [.op .bit1_B, .op .bit1_C, .op .bit1_D, .op .bit1_E,
    .op .bit1_H, .op .bit1_L, .op .bit1_atHL, .op .bit1_A],
   [.op .bit2_B, .op .bit2_C, .op .bit2_D, .op .bit2_E,
    .op .bit2_H, .op .bit2_L, .op .bit2_atHL, .op .bit2_A],
   [.op .bit3_B, .op .bit3_C, .op .bit3_D, .op .bit3_E,
    .op .bit3_H, .op .bit3_L, .op .bit3_atHL, .op .bit3_A],
   [.op .bit4_B, .op .bit4_C, .op .bit4_D, .op .bit4_E,
    .op .bit4_H, .op .bit4_L, .op .bit4_atHL, .op .bit4_A],
   [.op .bit5_B, .op .bit5_C, .op .bit5_D, .op .bit5_E,
    .op .bit5_H, .op .bit5_L, .op .bit5_atHL, .op .bit5_A],
   [.op .bit6_B, .op .bit6_C, .op .bit6_D, .op .bit6_E,
    .op .bit6_H, .op .bit6_L, .op .bit6_atHL, .op .bit6_A],
   [.op .bit7_B, .op .bit7_C, .op .bit7_D, .op .bit7_E,
    .op .bit7_H, .op .bit7_L, .op .bit7_atHL, .op .bit7_A]]

/-- The bit table's cells with `x = 2`, a row for each `y`, its cells by `z` (30 R125). -/
def bitBlock2 : List (List Arm) :=
  [[.op .res0_B, .op .res0_C, .op .res0_D, .op .res0_E,
    .op .res0_H, .op .res0_L, .op .res0_atHL, .op .res0_A],
   [.op .res1_B, .op .res1_C, .op .res1_D, .op .res1_E,
    .op .res1_H, .op .res1_L, .op .res1_atHL, .op .res1_A],
   [.op .res2_B, .op .res2_C, .op .res2_D, .op .res2_E,
    .op .res2_H, .op .res2_L, .op .res2_atHL, .op .res2_A],
   [.op .res3_B, .op .res3_C, .op .res3_D, .op .res3_E,
    .op .res3_H, .op .res3_L, .op .res3_atHL, .op .res3_A],
   [.op .res4_B, .op .res4_C, .op .res4_D, .op .res4_E,
    .op .res4_H, .op .res4_L, .op .res4_atHL, .op .res4_A],
   [.op .res5_B, .op .res5_C, .op .res5_D, .op .res5_E,
    .op .res5_H, .op .res5_L, .op .res5_atHL, .op .res5_A],
   [.op .res6_B, .op .res6_C, .op .res6_D, .op .res6_E,
    .op .res6_H, .op .res6_L, .op .res6_atHL, .op .res6_A],
   [.op .res7_B, .op .res7_C, .op .res7_D, .op .res7_E,
    .op .res7_H, .op .res7_L, .op .res7_atHL, .op .res7_A]]

/-- The bit table's cells with `x = 3`, a row for each `y`, its cells by `z` (30 R125). -/
def bitBlock3 : List (List Arm) :=
  [[.op .set0_B, .op .set0_C, .op .set0_D, .op .set0_E,
    .op .set0_H, .op .set0_L, .op .set0_atHL, .op .set0_A],
   [.op .set1_B, .op .set1_C, .op .set1_D, .op .set1_E,
    .op .set1_H, .op .set1_L, .op .set1_atHL, .op .set1_A],
   [.op .set2_B, .op .set2_C, .op .set2_D, .op .set2_E,
    .op .set2_H, .op .set2_L, .op .set2_atHL, .op .set2_A],
   [.op .set3_B, .op .set3_C, .op .set3_D, .op .set3_E,
    .op .set3_H, .op .set3_L, .op .set3_atHL, .op .set3_A],
   [.op .set4_B, .op .set4_C, .op .set4_D, .op .set4_E,
    .op .set4_H, .op .set4_L, .op .set4_atHL, .op .set4_A],
   [.op .set5_B, .op .set5_C, .op .set5_D, .op .set5_E,
    .op .set5_H, .op .set5_L, .op .set5_atHL, .op .set5_A],
   [.op .set6_B, .op .set6_C, .op .set6_D, .op .set6_E,
    .op .set6_H, .op .set6_L, .op .set6_atHL, .op .set6_A],
   [.op .set7_B, .op .set7_C, .op .set7_D, .op .set7_E,
    .op .set7_H, .op .set7_L, .op .set7_atHL, .op .set7_A]]

/-- The cell of a table of four blocks, by the nested selection of 30 R110: `x`, then `y`, then `z`. -/
def selectCell (b0 b1 b2 b3 : List (List Arm)) (op : Byte) : Arm :=
  let f := quintuple op
  let block := match f.x with
    | 0 => b0
    | 1 => b1
    | 2 => b2
    | _ => b3
  (block.getD f.y []).getD f.z .undefined

/-- 30 R124: the index table, the opcode bytes that have an arm after 0xDD. -/
def indexTable : List (Byte × Arm) :=
  [(0x09, .op .addIX_BC), (0x19, .op .addIX_DE), (0x21, .word .ldIX_nn), (0x22, .word .ldMem_IX)] ++
  [(0x23, .op .incIX), (0x29, .op .addIX_IX), (0x2A, .word .ldIX_mem), (0x2B, .op .decIX)] ++
  [(0x34, .disp .incIXd), (0x35, .disp .decIXd), (0x36, .dispByte .ldIXd_n), (0x39, .op .addIX_SP)] ++
  [(0x46, .disp .ldB_IXd), (0x4E, .disp .ldC_IXd), (0x56, .disp .ldD_IXd), (0x5E, .disp .ldE_IXd)] ++
  [(0x66, .disp .ldH_IXd), (0x6E, .disp .ldL_IXd), (0x70, .disp .ldIXd_B), (0x71, .disp .ldIXd_C)] ++
  [(0x72, .disp .ldIXd_D), (0x73, .disp .ldIXd_E), (0x74, .disp .ldIXd_H), (0x75, .disp .ldIXd_L)] ++
  [(0x77, .disp .ldIXd_A), (0x7E, .disp .ldA_IXd), (0x86, .disp .addA_IXd), (0x8E, .disp .adcA_IXd)] ++
  [(0x96, .disp .subA_IXd), (0x9E, .disp .sbcA_IXd), (0xA6, .disp .andA_IXd), (0xAE, .disp .xorA_IXd)] ++
  [(0xB6, .disp .orA_IXd), (0xBE, .disp .cpA_IXd), (0xE1, .op .popIX), (0xE5, .op .pushIX)] ++
  [(0xE9, .op .jpIX), (0xF9, .op .ldSP_IX), (0xCB, .op .bitPrefix)]

/-- 30 R126: the index+bit table, the opcode bytes that have an arm after 0xDD 0xCB d. -/
def indexBitTable : List (Byte × (Byte → Instr)) :=
  [(0x06, .rlcIXd), (0x0E, .rrcIXd), (0x16, .rlIXd), (0x1E, .rrIXd)] ++
  [(0x26, .slaIXd), (0x2E, .sraIXd), (0x3E, .srlIXd), (0x46, .bit0_IXd)] ++
  [(0x4E, .bit1_IXd), (0x56, .bit2_IXd), (0x5E, .bit3_IXd), (0x66, .bit4_IXd)] ++
  [(0x6E, .bit5_IXd), (0x76, .bit6_IXd), (0x7E, .bit7_IXd), (0x86, .res0_IXd)] ++
  [(0x8E, .res1_IXd), (0x96, .res2_IXd), (0x9E, .res3_IXd), (0xA6, .res4_IXd)] ++
  [(0xAE, .res5_IXd), (0xB6, .res6_IXd), (0xBE, .res7_IXd), (0xC6, .set0_IXd)] ++
  [(0xCE, .set1_IXd), (0xD6, .set2_IXd), (0xDE, .set3_IXd), (0xE6, .set4_IXd)] ++
  [(0xEE, .set5_IXd), (0xF6, .set6_IXd), (0xFE, .set7_IXd)]

/-- The arm of an opcode byte in the table the decode state selects (41 R185, R190): the main table, the index table,
the bit table, or the index+bit table with the displacement already fetched. -/
def armOf : PrefixState → Byte → Arm
  | .none, op => selectCell mainBlock0 mainBlock1 mainBlock2 mainBlock3 op
  | .index, op => (indexTable.lookup op).getD .undefined
  | .bit, op => selectCell bitBlock0 bitBlock1 bitBlock2 bitBlock3 op
  | .indexBit d, op =>
    match indexBitTable.lookup op with
    | some f => .op (f d)
    | none => .undefined

/-- Why bytes are no instruction. -/
inductive DecodeError where
  /-- the table the decode state `t` selects has no arm for the byte `op` (30 R128) -/
  | noArm (t : PrefixState) (op : Byte)
  /-- the bytes end before the instruction does -/
  | truncated
deriving DecidableEq, Repr

/-- The operand bytes of an arm, taken from the bytes after the opcode (30 R103, R104). -/
def takeOperands (t : PrefixState) (op : Byte) : Arm → List Byte → Except DecodeError (Instr × List Byte)
  | .undefined, _ => .error (.noArm t op)
  | .op i, rest => .ok (i, rest)
  | .byte f, n :: rest => .ok (f n, rest)
  | .word f, l :: h :: rest => .ok (f (joinBytes h l), rest)
  | .disp f, d :: rest => .ok (f d, rest)
  | .dispByte f, d :: n :: rest => .ok (f d n, rest)
  | _, _ => .error .truncated

/-- One opcode byte and its operand bytes, in the table the decode state selects. A prefix byte reads as its own row. -/
def decodeUnit (t : PrefixState) : List Byte → Except DecodeError (Instr × List Byte)
  | [] => .error .truncated
  | op :: rest => takeOperands t op (armOf t op) rest

/-- Decoding a whole instruction (30 R105, 41 R185): a prefix byte selects the next table, and 0xCB after 0xDD takes
the displacement before the last opcode byte. Answers the instruction and the bytes after it. -/
def decode (bytes : List Byte) : Except DecodeError (Instr × List Byte) :=
  match decodeUnit .none bytes with
  | .ok (.indexPrefix, rest) =>
    match decodeUnit .index rest with
    | .ok (.bitPrefix, d :: rest') => decodeUnit (.indexBit d) rest'
    | .ok (.bitPrefix, []) => .error .truncated
    | other => other
  | .ok (.bitPrefix, rest) => decodeUnit .bit rest
  | other => other

/-- The four bytes of an instruction whose bits are the low `nbits` of `w`, bit 0 the least significant bit of the
first byte; every bit above is 0. Four bytes is the longest instruction (30 R103). -/
def tableBytes (nbits w : Nat) : List Byte :=
  let v := w % 2 ^ nbits
  [BitVec.ofNat 8 v, BitVec.ofNat 8 (v >>> 8), BitVec.ofNat 8 (v >>> 16), BitVec.ofNat 8 (v >>> 24)]

/-- The instruction the decoder reads from an instruction whose bits are `w`. A row of one byte is what the decoder
reads at that byte, so that the two prefix rows of the main table read as themselves (log entry 12). -/
def decodeTableWord (nbits w : Nat) : Option Instr :=
  let answer := if nbits ≤ 8 then decodeUnit .none (tableBytes nbits w) else decode (tableBytes nbits w)
  match answer with
  | .ok (i, _) => some i
  | .error _ => none

/-- The bytes of an instruction, in order, from the `pattern` of its row (30 R103, R132). A prefix row is its one
byte. -/
def encode : Instr → List Byte
  | .nop => [0x00]
  | .ldBC_nn nn => [0x01, loByte nn, hiByte nn]
  | .ldAtBC_A => [0x02]
  | .incBC => [0x03]
  | .incB => [0x04]
  | .decB => [0x05]
  | .ldB_n n => [0x06, n]
  | .exAF => [0x08]
  | .addHL_BC => [0x09]
  | .ldA_atBC => [0x0A]
  | .decBC => [0x0B]
  | .incC => [0x0C]
  | .decC => [0x0D]
  | .ldC_n n => [0x0E, n]
  | .djnz d => [0x10, d]
  | .ldDE_nn nn => [0x11, loByte nn, hiByte nn]
  | .ldAtDE_A => [0x12]
  | .incDE => [0x13]
  | .incD => [0x14]
  | .decD => [0x15]
  | .ldD_n n => [0x16, n]
  | .jr d => [0x18, d]
  | .addHL_DE => [0x19]
  | .ldA_atDE => [0x1A]
  | .decDE => [0x1B]
  | .incE => [0x1C]
  | .decE => [0x1D]
  | .ldE_n n => [0x1E, n]
  | .jrNZ d => [0x20, d]
  | .ldHL_nn nn => [0x21, loByte nn, hiByte nn]
  | .ldMem_HL nn => [0x22, loByte nn, hiByte nn]
  | .incHL => [0x23]
  | .incH => [0x24]
  | .decH => [0x25]
  | .ldH_n n => [0x26, n]
  | .jrZ d => [0x28, d]
  | .addHL_HL => [0x29]
  | .ldHL_mem nn => [0x2A, loByte nn, hiByte nn]
  | .decHL => [0x2B]
  | .incL => [0x2C]
  | .decL => [0x2D]
  | .ldL_n n => [0x2E, n]
  | .cpl => [0x2F]
  | .jrNC d => [0x30, d]
  | .ldSP_nn nn => [0x31, loByte nn, hiByte nn]
  | .ldMem_A nn => [0x32, loByte nn, hiByte nn]
  | .incSP => [0x33]
  | .incAtHL => [0x34]
  | .decAtHL => [0x35]
  | .ldAtHL_n n => [0x36, n]
  | .scf => [0x37]
  | .jrC d => [0x38, d]
  | .addHL_SP => [0x39]
  | .ldA_mem nn => [0x3A, loByte nn, hiByte nn]
  | .decSP => [0x3B]
  | .incA => [0x3C]
  | .decA => [0x3D]
  | .ldA_n n => [0x3E, n]
  | .ccf => [0x3F]
  | .ldB_B => [0x40]
  | .ldB_C => [0x41]
  | .ldB_D => [0x42]
  | .ldB_E => [0x43]
  | .ldB_H => [0x44]
  | .ldB_L => [0x45]
  | .ldB_atHL => [0x46]
  | .ldB_A => [0x47]
  | .ldC_B => [0x48]
  | .ldC_C => [0x49]
  | .ldC_D => [0x4A]
  | .ldC_E => [0x4B]
  | .ldC_H => [0x4C]
  | .ldC_L => [0x4D]
  | .ldC_atHL => [0x4E]
  | .ldC_A => [0x4F]
  | .ldD_B => [0x50]
  | .ldD_C => [0x51]
  | .ldD_D => [0x52]
  | .ldD_E => [0x53]
  | .ldD_H => [0x54]
  | .ldD_L => [0x55]
  | .ldD_atHL => [0x56]
  | .ldD_A => [0x57]
  | .ldE_B => [0x58]
  | .ldE_C => [0x59]
  | .ldE_D => [0x5A]
  | .ldE_E => [0x5B]
  | .ldE_H => [0x5C]
  | .ldE_L => [0x5D]
  | .ldE_atHL => [0x5E]
  | .ldE_A => [0x5F]
  | .ldH_B => [0x60]
  | .ldH_C => [0x61]
  | .ldH_D => [0x62]
  | .ldH_E => [0x63]
  | .ldH_H => [0x64]
  | .ldH_L => [0x65]
  | .ldH_atHL => [0x66]
  | .ldH_A => [0x67]
  | .ldL_B => [0x68]
  | .ldL_C => [0x69]
  | .ldL_D => [0x6A]
  | .ldL_E => [0x6B]
  | .ldL_H => [0x6C]
  | .ldL_L => [0x6D]
  | .ldL_atHL => [0x6E]
  | .ldL_A => [0x6F]
  | .ldAtHL_B => [0x70]
  | .ldAtHL_C => [0x71]
  | .ldAtHL_D => [0x72]
  | .ldAtHL_E => [0x73]
  | .ldAtHL_H => [0x74]
  | .ldAtHL_L => [0x75]
  | .halt => [0x76]
  | .ldAtHL_A => [0x77]
  | .ldA_B => [0x78]
  | .ldA_C => [0x79]
  | .ldA_D => [0x7A]
  | .ldA_E => [0x7B]
  | .ldA_H => [0x7C]
  | .ldA_L => [0x7D]
  | .ldA_atHL => [0x7E]
  | .ldA_A => [0x7F]
  | .addA_B => [0x80]
  | .addA_n n => [0x81, n]
  | .addA_D => [0x82]
  | .addA_E => [0x83]
  | .addA_H => [0x84]
  | .addA_L => [0x85]
  | .addA_atHL => [0x86]
  | .addA_A => [0x87]
  | .adcA_B => [0x88]
  | .adcA_n n => [0x89, n]
  | .adcA_D => [0x8A]
  | .adcA_E => [0x8B]
  | .adcA_H => [0x8C]
  | .adcA_L => [0x8D]
  | .adcA_atHL => [0x8E]
  | .adcA_A => [0x8F]
  | .subA_B => [0x90]
  | .subA_n n => [0x91, n]
  | .subA_D => [0x92]
  | .subA_E => [0x93]
  | .subA_H => [0x94]
  | .subA_L => [0x95]
  | .subA_atHL => [0x96]
  | .subA_A => [0x97]
  | .sbcA_B => [0x98]
  | .sbcA_n n => [0x99, n]
  | .sbcA_D => [0x9A]
  | .sbcA_E => [0x9B]
  | .sbcA_H => [0x9C]
  | .sbcA_L => [0x9D]
  | .sbcA_atHL => [0x9E]
  | .sbcA_A => [0x9F]
  | .andA_B => [0xA0]
  | .andA_n n => [0xA1, n]
  | .andA_D => [0xA2]
  | .andA_E => [0xA3]
  | .andA_H => [0xA4]
  | .andA_L => [0xA5]
  | .andA_atHL => [0xA6]
  | .andA_A => [0xA7]
  | .xorA_B => [0xA8]
  | .xorA_n n => [0xA9, n]
  | .xorA_D => [0xAA]
  | .xorA_E => [0xAB]
  | .xorA_H => [0xAC]
  | .xorA_L => [0xAD]
  | .xorA_atHL => [0xAE]
  | .xorA_A => [0xAF]
  | .orA_B => [0xB0]
  | .orA_n n => [0xB1, n]
  | .orA_D => [0xB2]
  | .orA_E => [0xB3]
  | .orA_H => [0xB4]
  | .orA_L => [0xB5]
  | .orA_atHL => [0xB6]
  | .orA_A => [0xB7]
  | .cpA_B => [0xB8]
  | .cpA_n n => [0xB9, n]
  | .cpA_D => [0xBA]
  | .cpA_E => [0xBB]
  | .cpA_H => [0xBC]
  | .cpA_L => [0xBD]
  | .cpA_atHL => [0xBE]
  | .cpA_A => [0xBF]
  | .retNZ => [0xC0]
  | .popBC => [0xC1]
  | .jpNZ nn => [0xC2, loByte nn, hiByte nn]
  | .jp nn => [0xC3, loByte nn, hiByte nn]
  | .callNZ nn => [0xC4, loByte nn, hiByte nn]
  | .pushBC => [0xC5]
  | .im0 => [0xC6]
  | .rst00 => [0xC7]
  | .retZ => [0xC8]
  | .ret => [0xC9]
  | .jpZ nn => [0xCA, loByte nn, hiByte nn]
  | .bitPrefix => [0xCB]
  | .callZ nn => [0xCC, loByte nn, hiByte nn]
  | .call nn => [0xCD, loByte nn, hiByte nn]
  | .im1 => [0xCE]
  | .rst08 => [0xCF]
  | .retNC => [0xD0]
  | .popDE => [0xD1]
  | .jpNC nn => [0xD2, loByte nn, hiByte nn]
  | .outPort_A n => [0xD3, n]
  | .callNC nn => [0xD4, loByte nn, hiByte nn]
  | .pushDE => [0xD5]
  | .im2 => [0xD6]
  | .rst10 => [0xD7]
  | .retC => [0xD8]
  | .exx => [0xD9]
  | .jpC nn => [0xDA, loByte nn, hiByte nn]
  | .inA_port n => [0xDB, n]
  | .callC nn => [0xDC, loByte nn, hiByte nn]
  | .indexPrefix => [0xDD]
  | .ldI_A => [0xDE]
  | .rst18 => [0xDF]
  | .retPO => [0xE0]
  | .popHL => [0xE1]
  | .jpPO nn => [0xE2, loByte nn, hiByte nn]
  | .callPO nn => [0xE4, loByte nn, hiByte nn]
  | .pushHL => [0xE5]
  | .reti => [0xE6]
  | .rst20 => [0xE7]
  | .retPE => [0xE8]
  | .jpHL => [0xE9]
  | .jpPE nn => [0xEA, loByte nn, hiByte nn]
  | .callPE nn => [0xEC, loByte nn, hiByte nn]
  | .rst28 => [0xEF]
  | .retP => [0xF0]
  | .popAF => [0xF1]
  | .jpP nn => [0xF2, loByte nn, hiByte nn]
  | .di => [0xF3]
  | .callP nn => [0xF4, loByte nn, hiByte nn]
  | .pushAF => [0xF5]
  | .rst30 => [0xF7]
  | .retM => [0xF8]
  | .ldSP_HL => [0xF9]
  | .jpM nn => [0xFA, loByte nn, hiByte nn]
  | .ei => [0xFB]
  | .callM nn => [0xFC, loByte nn, hiByte nn]
  | .rst38 => [0xFF]
  | .rlcB => [0xCB, 0x00]
  | .rlcC => [0xCB, 0x01]
  | .rlcD => [0xCB, 0x02]
  | .rlcE => [0xCB, 0x03]
  | .rlcH => [0xCB, 0x04]
  | .rlcL => [0xCB, 0x05]
  | .rlcAtHL => [0xCB, 0x06]
  | .rlcA => [0xCB, 0x07]
  | .rrcB => [0xCB, 0x08]
  | .rrcC => [0xCB, 0x09]
  | .rrcD => [0xCB, 0x0A]
  | .rrcE => [0xCB, 0x0B]
  | .rrcH => [0xCB, 0x0C]
  | .rrcL => [0xCB, 0x0D]
  | .rrcAtHL => [0xCB, 0x0E]
  | .rrcA => [0xCB, 0x0F]
  | .rlB => [0xCB, 0x10]
  | .rlC => [0xCB, 0x11]
  | .rlD => [0xCB, 0x12]
  | .rlE => [0xCB, 0x13]
  | .rlH => [0xCB, 0x14]
  | .rlL => [0xCB, 0x15]
  | .rlAtHL => [0xCB, 0x16]
  | .rlA => [0xCB, 0x17]
  | .rrB => [0xCB, 0x18]
  | .rrC => [0xCB, 0x19]
  | .rrD => [0xCB, 0x1A]
  | .rrE => [0xCB, 0x1B]
  | .rrH => [0xCB, 0x1C]
  | .rrL => [0xCB, 0x1D]
  | .rrAtHL => [0xCB, 0x1E]
  | .rrA => [0xCB, 0x1F]
  | .slaB => [0xCB, 0x20]
  | .slaC => [0xCB, 0x21]
  | .slaD => [0xCB, 0x22]
  | .slaE => [0xCB, 0x23]
  | .slaH => [0xCB, 0x24]
  | .slaL => [0xCB, 0x25]
  | .slaAtHL => [0xCB, 0x26]
  | .slaA => [0xCB, 0x27]
  | .sraB => [0xCB, 0x28]
  | .sraC => [0xCB, 0x29]
  | .sraD => [0xCB, 0x2A]
  | .sraE => [0xCB, 0x2B]
  | .sraH => [0xCB, 0x2C]
  | .sraL => [0xCB, 0x2D]
  | .sraAtHL => [0xCB, 0x2E]
  | .sraA => [0xCB, 0x2F]
  | .srlB => [0xCB, 0x38]
  | .srlC => [0xCB, 0x39]
  | .srlD => [0xCB, 0x3A]
  | .srlE => [0xCB, 0x3B]
  | .srlH => [0xCB, 0x3C]
  | .srlL => [0xCB, 0x3D]
  | .srlAtHL => [0xCB, 0x3E]
  | .srlA => [0xCB, 0x3F]
  | .bit0_B => [0xCB, 0x40]
  | .bit0_C => [0xCB, 0x41]
  | .bit0_D => [0xCB, 0x42]
  | .bit0_E => [0xCB, 0x43]
  | .bit0_H => [0xCB, 0x44]
  | .bit0_L => [0xCB, 0x45]
  | .bit0_atHL => [0xCB, 0x46]
  | .bit0_A => [0xCB, 0x47]
  | .bit1_B => [0xCB, 0x48]
  | .bit1_C => [0xCB, 0x49]
  | .bit1_D => [0xCB, 0x4A]
  | .bit1_E => [0xCB, 0x4B]
  | .bit1_H => [0xCB, 0x4C]
  | .bit1_L => [0xCB, 0x4D]
  | .bit1_atHL => [0xCB, 0x4E]
  | .bit1_A => [0xCB, 0x4F]
  | .bit2_B => [0xCB, 0x50]
  | .bit2_C => [0xCB, 0x51]
  | .bit2_D => [0xCB, 0x52]
  | .bit2_E => [0xCB, 0x53]
  | .bit2_H => [0xCB, 0x54]
  | .bit2_L => [0xCB, 0x55]
  | .bit2_atHL => [0xCB, 0x56]
  | .bit2_A => [0xCB, 0x57]
  | .bit3_B => [0xCB, 0x58]
  | .bit3_C => [0xCB, 0x59]
  | .bit3_D => [0xCB, 0x5A]
  | .bit3_E => [0xCB, 0x5B]
  | .bit3_H => [0xCB, 0x5C]
  | .bit3_L => [0xCB, 0x5D]
  | .bit3_atHL => [0xCB, 0x5E]
  | .bit3_A => [0xCB, 0x5F]
  | .bit4_B => [0xCB, 0x60]
  | .bit4_C => [0xCB, 0x61]
  | .bit4_D => [0xCB, 0x62]
  | .bit4_E => [0xCB, 0x63]
  | .bit4_H => [0xCB, 0x64]
  | .bit4_L => [0xCB, 0x65]
  | .bit4_atHL => [0xCB, 0x66]
  | .bit4_A => [0xCB, 0x67]
  | .bit5_B => [0xCB, 0x68]
  | .bit5_C => [0xCB, 0x69]
  | .bit5_D => [0xCB, 0x6A]
  | .bit5_E => [0xCB, 0x6B]
  | .bit5_H => [0xCB, 0x6C]
  | .bit5_L => [0xCB, 0x6D]
  | .bit5_atHL => [0xCB, 0x6E]
  | .bit5_A => [0xCB, 0x6F]
  | .bit6_B => [0xCB, 0x70]
  | .bit6_C => [0xCB, 0x71]
  | .bit6_D => [0xCB, 0x72]
  | .bit6_E => [0xCB, 0x73]
  | .bit6_H => [0xCB, 0x74]
  | .bit6_L => [0xCB, 0x75]
  | .bit6_atHL => [0xCB, 0x76]
  | .bit6_A => [0xCB, 0x77]
  | .bit7_B => [0xCB, 0x78]
  | .bit7_C => [0xCB, 0x79]
  | .bit7_D => [0xCB, 0x7A]
  | .bit7_E => [0xCB, 0x7B]
  | .bit7_H => [0xCB, 0x7C]
  | .bit7_L => [0xCB, 0x7D]
  | .bit7_atHL => [0xCB, 0x7E]
  | .bit7_A => [0xCB, 0x7F]
  | .res0_B => [0xCB, 0x80]
  | .res0_C => [0xCB, 0x81]
  | .res0_D => [0xCB, 0x82]
  | .res0_E => [0xCB, 0x83]
  | .res0_H => [0xCB, 0x84]
  | .res0_L => [0xCB, 0x85]
  | .res0_atHL => [0xCB, 0x86]
  | .res0_A => [0xCB, 0x87]
  | .res1_B => [0xCB, 0x88]
  | .res1_C => [0xCB, 0x89]
  | .res1_D => [0xCB, 0x8A]
  | .res1_E => [0xCB, 0x8B]
  | .res1_H => [0xCB, 0x8C]
  | .res1_L => [0xCB, 0x8D]
  | .res1_atHL => [0xCB, 0x8E]
  | .res1_A => [0xCB, 0x8F]
  | .res2_B => [0xCB, 0x90]
  | .res2_C => [0xCB, 0x91]
  | .res2_D => [0xCB, 0x92]
  | .res2_E => [0xCB, 0x93]
  | .res2_H => [0xCB, 0x94]
  | .res2_L => [0xCB, 0x95]
  | .res2_atHL => [0xCB, 0x96]
  | .res2_A => [0xCB, 0x97]
  | .res3_B => [0xCB, 0x98]
  | .res3_C => [0xCB, 0x99]
  | .res3_D => [0xCB, 0x9A]
  | .res3_E => [0xCB, 0x9B]
  | .res3_H => [0xCB, 0x9C]
  | .res3_L => [0xCB, 0x9D]
  | .res3_atHL => [0xCB, 0x9E]
  | .res3_A => [0xCB, 0x9F]
  | .res4_B => [0xCB, 0xA0]
  | .res4_C => [0xCB, 0xA1]
  | .res4_D => [0xCB, 0xA2]
  | .res4_E => [0xCB, 0xA3]
  | .res4_H => [0xCB, 0xA4]
  | .res4_L => [0xCB, 0xA5]
  | .res4_atHL => [0xCB, 0xA6]
  | .res4_A => [0xCB, 0xA7]
  | .res5_B => [0xCB, 0xA8]
  | .res5_C => [0xCB, 0xA9]
  | .res5_D => [0xCB, 0xAA]
  | .res5_E => [0xCB, 0xAB]
  | .res5_H => [0xCB, 0xAC]
  | .res5_L => [0xCB, 0xAD]
  | .res5_atHL => [0xCB, 0xAE]
  | .res5_A => [0xCB, 0xAF]
  | .res6_B => [0xCB, 0xB0]
  | .res6_C => [0xCB, 0xB1]
  | .res6_D => [0xCB, 0xB2]
  | .res6_E => [0xCB, 0xB3]
  | .res6_H => [0xCB, 0xB4]
  | .res6_L => [0xCB, 0xB5]
  | .res6_atHL => [0xCB, 0xB6]
  | .res6_A => [0xCB, 0xB7]
  | .res7_B => [0xCB, 0xB8]
  | .res7_C => [0xCB, 0xB9]
  | .res7_D => [0xCB, 0xBA]
  | .res7_E => [0xCB, 0xBB]
  | .res7_H => [0xCB, 0xBC]
  | .res7_L => [0xCB, 0xBD]
  | .res7_atHL => [0xCB, 0xBE]
  | .res7_A => [0xCB, 0xBF]
  | .set0_B => [0xCB, 0xC0]
  | .set0_C => [0xCB, 0xC1]
  | .set0_D => [0xCB, 0xC2]
  | .set0_E => [0xCB, 0xC3]
  | .set0_H => [0xCB, 0xC4]
  | .set0_L => [0xCB, 0xC5]
  | .set0_atHL => [0xCB, 0xC6]
  | .set0_A => [0xCB, 0xC7]
  | .set1_B => [0xCB, 0xC8]
  | .set1_C => [0xCB, 0xC9]
  | .set1_D => [0xCB, 0xCA]
  | .set1_E => [0xCB, 0xCB]
  | .set1_H => [0xCB, 0xCC]
  | .set1_L => [0xCB, 0xCD]
  | .set1_atHL => [0xCB, 0xCE]
  | .set1_A => [0xCB, 0xCF]
  | .set2_B => [0xCB, 0xD0]
  | .set2_C => [0xCB, 0xD1]
  | .set2_D => [0xCB, 0xD2]
  | .set2_E => [0xCB, 0xD3]
  | .set2_H => [0xCB, 0xD4]
  | .set2_L => [0xCB, 0xD5]
  | .set2_atHL => [0xCB, 0xD6]
  | .set2_A => [0xCB, 0xD7]
  | .set3_B => [0xCB, 0xD8]
  | .set3_C => [0xCB, 0xD9]
  | .set3_D => [0xCB, 0xDA]
  | .set3_E => [0xCB, 0xDB]
  | .set3_H => [0xCB, 0xDC]
  | .set3_L => [0xCB, 0xDD]
  | .set3_atHL => [0xCB, 0xDE]
  | .set3_A => [0xCB, 0xDF]
  | .set4_B => [0xCB, 0xE0]
  | .set4_C => [0xCB, 0xE1]
  | .set4_D => [0xCB, 0xE2]
  | .set4_E => [0xCB, 0xE3]
  | .set4_H => [0xCB, 0xE4]
  | .set4_L => [0xCB, 0xE5]
  | .set4_atHL => [0xCB, 0xE6]
  | .set4_A => [0xCB, 0xE7]
  | .set5_B => [0xCB, 0xE8]
  | .set5_C => [0xCB, 0xE9]
  | .set5_D => [0xCB, 0xEA]
  | .set5_E => [0xCB, 0xEB]
  | .set5_H => [0xCB, 0xEC]
  | .set5_L => [0xCB, 0xED]
  | .set5_atHL => [0xCB, 0xEE]
  | .set5_A => [0xCB, 0xEF]
  | .set6_B => [0xCB, 0xF0]
  | .set6_C => [0xCB, 0xF1]
  | .set6_D => [0xCB, 0xF2]
  | .set6_E => [0xCB, 0xF3]
  | .set6_H => [0xCB, 0xF4]
  | .set6_L => [0xCB, 0xF5]
  | .set6_atHL => [0xCB, 0xF6]
  | .set6_A => [0xCB, 0xF7]
  | .set7_B => [0xCB, 0xF8]
  | .set7_C => [0xCB, 0xF9]
  | .set7_D => [0xCB, 0xFA]
  | .set7_E => [0xCB, 0xFB]
  | .set7_H => [0xCB, 0xFC]
  | .set7_L => [0xCB, 0xFD]
  | .set7_atHL => [0xCB, 0xFE]
  | .set7_A => [0xCB, 0xFF]
  | .addIX_BC => [0xDD, 0x09]
  | .addIX_DE => [0xDD, 0x19]
  | .ldIX_nn nn => [0xDD, 0x21, loByte nn, hiByte nn]
  | .ldMem_IX nn => [0xDD, 0x22, loByte nn, hiByte nn]
  | .incIX => [0xDD, 0x23]
  | .addIX_IX => [0xDD, 0x29]
  | .ldIX_mem nn => [0xDD, 0x2A, loByte nn, hiByte nn]
  | .decIX => [0xDD, 0x2B]
  | .incIXd d => [0xDD, 0x34, d]
  | .decIXd d => [0xDD, 0x35, d]
  | .ldIXd_n d n => [0xDD, 0x36, d, n]
  | .addIX_SP => [0xDD, 0x39]
  | .ldB_IXd d => [0xDD, 0x46, d]
  | .ldC_IXd d => [0xDD, 0x4E, d]
  | .ldD_IXd d => [0xDD, 0x56, d]
  | .ldE_IXd d => [0xDD, 0x5E, d]
  | .ldH_IXd d => [0xDD, 0x66, d]
  | .ldL_IXd d => [0xDD, 0x6E, d]
  | .ldIXd_B d => [0xDD, 0x70, d]
  | .ldIXd_C d => [0xDD, 0x71, d]
  | .ldIXd_D d => [0xDD, 0x72, d]
  | .ldIXd_E d => [0xDD, 0x73, d]
  | .ldIXd_H d => [0xDD, 0x74, d]
  | .ldIXd_L d => [0xDD, 0x75, d]
  | .ldIXd_A d => [0xDD, 0x77, d]
  | .ldA_IXd d => [0xDD, 0x7E, d]
  | .addA_IXd d => [0xDD, 0x86, d]
  | .adcA_IXd d => [0xDD, 0x8E, d]
  | .subA_IXd d => [0xDD, 0x96, d]
  | .sbcA_IXd d => [0xDD, 0x9E, d]
  | .andA_IXd d => [0xDD, 0xA6, d]
  | .xorA_IXd d => [0xDD, 0xAE, d]
  | .orA_IXd d => [0xDD, 0xB6, d]
  | .cpA_IXd d => [0xDD, 0xBE, d]
  | .popIX => [0xDD, 0xE1]
  | .pushIX => [0xDD, 0xE5]
  | .jpIX => [0xDD, 0xE9]
  | .ldSP_IX => [0xDD, 0xF9]
  | .rlcIXd d => [0xDD, 0xCB, d, 0x06]
  | .rrcIXd d => [0xDD, 0xCB, d, 0x0E]
  | .rlIXd d => [0xDD, 0xCB, d, 0x16]
  | .rrIXd d => [0xDD, 0xCB, d, 0x1E]
  | .slaIXd d => [0xDD, 0xCB, d, 0x26]
  | .sraIXd d => [0xDD, 0xCB, d, 0x2E]
  | .srlIXd d => [0xDD, 0xCB, d, 0x3E]
  | .bit0_IXd d => [0xDD, 0xCB, d, 0x46]
  | .bit1_IXd d => [0xDD, 0xCB, d, 0x4E]
  | .bit2_IXd d => [0xDD, 0xCB, d, 0x56]
  | .bit3_IXd d => [0xDD, 0xCB, d, 0x5E]
  | .bit4_IXd d => [0xDD, 0xCB, d, 0x66]
  | .bit5_IXd d => [0xDD, 0xCB, d, 0x6E]
  | .bit6_IXd d => [0xDD, 0xCB, d, 0x76]
  | .bit7_IXd d => [0xDD, 0xCB, d, 0x7E]
  | .res0_IXd d => [0xDD, 0xCB, d, 0x86]
  | .res1_IXd d => [0xDD, 0xCB, d, 0x8E]
  | .res2_IXd d => [0xDD, 0xCB, d, 0x96]
  | .res3_IXd d => [0xDD, 0xCB, d, 0x9E]
  | .res4_IXd d => [0xDD, 0xCB, d, 0xA6]
  | .res5_IXd d => [0xDD, 0xCB, d, 0xAE]
  | .res6_IXd d => [0xDD, 0xCB, d, 0xB6]
  | .res7_IXd d => [0xDD, 0xCB, d, 0xBE]
  | .set0_IXd d => [0xDD, 0xCB, d, 0xC6]
  | .set1_IXd d => [0xDD, 0xCB, d, 0xCE]
  | .set2_IXd d => [0xDD, 0xCB, d, 0xD6]
  | .set3_IXd d => [0xDD, 0xCB, d, 0xDE]
  | .set4_IXd d => [0xDD, 0xCB, d, 0xE6]
  | .set5_IXd d => [0xDD, 0xCB, d, 0xEE]
  | .set6_IXd d => [0xDD, 0xCB, d, 0xF6]
  | .set7_IXd d => [0xDD, 0xCB, d, 0xFE]

end Sys2Proof
end

