-- ==== Sys2Proof/Config.lean ====
section
/-! DEFINITION. What the spec leaves to the platform or to chance. The opaque constants are free values: no proof can
know what they are, so a claim holds whatever they are. -/

namespace Sys2Proof

/-- FREE VALUE (DESIGN CHOICE, log entry 8). What the environment answers to a port read for which no answer stands
ready in `State.portIn`: 20 R74's `IO_IN`, "the environment's answer, any u8". First argument: the draw counter, so
that each read is a fresh draw (93 U7); second: the port. -/
opaque Config.ioIn : Nat → Byte → Byte

/-- FREE VALUE (DESIGN CHOICE, log entry 9). A 16-bit register that powerOn leaves unspecified (70 R410, 93 U6), by
the draw counter. -/
opaque Config.powerOnWord : Nat → Word

/-- FREE VALUE (DESIGN CHOICE, log entry 9). An 8-bit register or latch that powerOn leaves unspecified (70 R410, 93 U6
and U17), by the draw counter. -/
opaque Config.powerOnByte : Nat → Byte

/-- 00 R8 `MIRROR35`, false in REF: bits 3 and 5 of a result are not mirrored into the flags (40 R152). -/
def Config.mirror35 : Bool := false

end Sys2Proof
end

