-- ==== Sys2Proof/Machine/Flags.lean ====
section
/-! DEFINITION. The flag algebra of 40: pure functions from a flags byte to a flags byte, the arithmetic cores, the
rotates and shifts, and the conditions. A function changes only the bits it names. -/

namespace Sys2Proof.Machine

/-- 10 R30 `S_MASK`. -/
def maskS : Byte := 0x80
/-- 10 R30 `Z_MASK`. -/
def maskZ : Byte := 0x40
/-- 10 R30 `H_MASK`. -/
def maskH : Byte := 0x10
/-- 10 R30 `PV_MASK`. -/
def maskPV : Byte := 0x04
/-- 10 R30 `C_MASK`. -/
def maskC : Byte := 0x01
/-- 10 R30 `FLAG_ONES`: the reserved bit that always reads 1. -/
def flagOnes : Byte := 0x02
/-- 10 R30 `FLAG_ZEROS`: the reserved bits that always read 0. -/
def flagZeros : Byte := 0x28

/-- 10 R31: what a read of `F` returns for the byte stored. -/
def normFlags (raw : Byte) : Byte := (raw ||| flagOnes) &&& ~~~flagZeros

/-- 40 R140: `set_flag`. -/
def setFlag (f mask : Byte) (cond : Bool) : Byte := if cond then f ||| mask else f &&& ~~~mask

/-- 40 R140: `flag`. -/
def flag (f mask : Byte) : Bool := decide (f &&& mask ≠ 0)

/-- 40 R141: `adjust_sign`. -/
def adjustSign (f v : Byte) : Byte := setFlag f maskS (v.getLsbD 7)

/-- 40 R142: `adjust_zero`. -/
def adjustZero (f v : Byte) : Byte := setFlag f maskZ (decide (v = 0))

/-- 40 R143: `even(v)`, the number of 1 bits is even. -/
def evenParity (v : Byte) : Bool :=
  !(v.getLsbD 0 ^^ v.getLsbD 1 ^^ v.getLsbD 2 ^^ v.getLsbD 3 ^^
    v.getLsbD 4 ^^ v.getLsbD 5 ^^ v.getLsbD 6 ^^ v.getLsbD 7)

/-- 40 R143: `adjust_parity`. -/
def adjustParity (f v : Byte) : Byte := setFlag f maskPV (evenParity v)

/-- 40 R144: the half-carry index. -/
def halfCarryIndex (before value result : Byte) : Nat :=
  (((before &&& 0x88) >>> 1 ||| (value &&& 0x88) >>> 2 ||| (result &&& 0x88) >>> 3) &&& 7).toNat

/-- 40 R145: `HC_ADD`, a constant table and no part of `State` (10 R48). -/
def hcAdd : List Bool := [false, false, true, false, true, false, true, true]

/-- 40 R145: `HC_SUB`, a constant table and no part of `State` (10 R48). -/
def hcSub : List Bool := [false, true, true, true, false, false, false, true]

/-- 40 R146: `adjust_half_carry_add`. -/
def adjustHalfCarryAdd (f before value result : Byte) : Byte :=
  setFlag f maskH (hcAdd.getD (halfCarryIndex before value result) false)

/-- 40 R147: `adjust_half_carry_sub`. -/
def adjustHalfCarrySub (f before value result : Byte) : Byte :=
  setFlag f maskH (hcSub.getD (halfCarryIndex before value result) false)

/-- 40 R149: `adjust_overflow_add`. -/
def adjustOverflowAdd (f before value result : Byte) : Byte :=
  setFlag f maskPV (decide ((before ^^^ result) &&& (value ^^^ result) &&& 0x80 ≠ 0))

/-- 40 R150: `adjust_overflow_sub`. -/
def adjustOverflowSub (f before value result : Byte) : Byte :=
  setFlag f maskPV (decide ((before ^^^ value) &&& (before ^^^ result) &&& 0x80 ≠ 0))

/-- 40 R152: `adjust_xy`, called only where `MIRROR35` is true, after S and Z are computed from a result. -/
def adjustXY (f v : Byte) : Byte := (f &&& ~~~0x28) ||| (v &&& 0x28)

/-- 40 R152: the mirroring of bits 3 and 5, where the profile has it. -/
def mirror (f v : Byte) : Byte := if Config.mirror35 then adjustXY f v else f

/-- 40 R151: `adjust_sz`, with the mirroring of R152 after it. -/
def adjustSz (f v : Byte) : Byte := mirror (adjustZero (adjustSign f v) v) v

/-- 40 R151: `adjust_szp`. -/
def adjustSzp (f v : Byte) : Byte := adjustParity (adjustSz f v) v

/-- 40 R155: `alu_add`, the result and the flags. -/
def aluAdd (f a v : Byte) (cin : Bool) : Byte × Byte :=
  let s : Nat := a.toNat + v.toNat + cin.toNat
  let r := BitVec.ofNat 8 s
  let f1 := setFlag f maskC (decide (s > 255))
  let f2 := adjustHalfCarryAdd f1 a v r
  let f3 := adjustOverflowAdd f2 a v r
  (r, adjustSz f3 r)

/-- 40 R156: `alu_sub`, the result and the flags; `C` is the borrow. -/
def aluSub (f a v : Byte) (bin : Bool) : Byte × Byte :=
  let s : Int := (a.toNat : Int) - (v.toNat : Int) - (bin.toNat : Int)
  let r := BitVec.ofInt 8 s
  let f1 := setFlag f maskC (decide (s < 0))
  let f2 := adjustHalfCarrySub f1 a v r
  let f3 := adjustOverflowSub f2 a v r
  (r, adjustSz f3 r)

/-- 40 R157: `alu_logic`, the flags for a result already computed. -/
def aluLogic (f r : Byte) : Byte := adjustSzp (setFlag (setFlag f maskC false) maskH false) r

/-- 43 R262: the result and the flags of an 8-bit increment; `C` is kept. -/
def incFlags (f v : Byte) : Byte × Byte :=
  let r := v + 1
  (r, adjustSz (adjustOverflowAdd (adjustHalfCarryAdd f v 1 r) v 1 r) r)

/-- 43 R263: the result and the flags of an 8-bit decrement; `C` is kept. -/
def decFlags (f v : Byte) : Byte × Byte :=
  let r := v + 0xFF
  (r, adjustSz (adjustOverflowSub (adjustHalfCarrySub f v 1 r) v 1 r) r)

/-- The eight accumulator operations (43 R250 to R257) on the flags, `A` and the operand: the new `A` and the new
flags. `CP` discards its result. -/
def aluResult (op : AluOp) (f a v : Byte) : Byte × Byte :=
  match op with
  | .add => aluAdd f a v false
  | .adc => aluAdd f a v (flag f maskC)
  | .sub => aluSub f a v false
  | .sbc => aluSub f a v (flag f maskC)
  | .and => (a &&& v, aluLogic f (a &&& v))
  | .xor => (a ^^^ v, aluLogic f (a ^^^ v))
  | .or => (a ||| v, aluLogic f (a ||| v))
  | .cp => (a, (aluSub f a v false).2)

/-- 45, section 1: `shift_flags`. -/
def shiftFlags (f r : Byte) (c : Bool) : Byte :=
  adjustSzp (setFlag (setFlag f maskH false) maskC c) r

/-- The byte 0 or 1 of a bit. -/
def bitByte (c : Bool) : Byte := if c then 1 else 0

/-- The rotates and shifts (45 R290 to R296) on the old carry and the operand: the result and the bit that left. -/
def rotate (op : RotOp) (cold : Bool) (v : Byte) : Byte × Bool :=
  match op with
  | .rlc => (v <<< 1 ||| bitByte (v.getLsbD 7), v.getLsbD 7)
  | .rrc => (v >>> 1 ||| bitByte (v.getLsbD 0) <<< 7, v.getLsbD 0)
  | .rl => (v <<< 1 ||| bitByte cold, v.getLsbD 7)
  | .rr => (v >>> 1 ||| bitByte cold <<< 7, v.getLsbD 0)
  | .sla => (v <<< 1, v.getLsbD 7)
  | .sra => (v >>> 1 ||| v &&& 0x80, v.getLsbD 0)
  | .srl => (v >>> 1, v.getLsbD 0)

/-- 45 R300: the flags of `BIT y`: `Z` is the complement of the bit tested. -/
def bitTestFlags (f v : Byte) (y : Oct) : Byte := setFlag f maskZ (!v.getLsbD y.toNat)

/-- 45 R301: the operand with bit `y` reset. -/
def resetBit (v : Byte) (y : Oct) : Byte := v &&& ~~~((1 : Byte) <<< y.toNat)

/-- 45 R302: the operand with bit `y` set. -/
def setBit (v : Byte) (y : Oct) : Byte := v ||| ((1 : Byte) <<< y.toNat)

/-- 30 R115: whether a condition holds of the flags as read. -/
def condHolds (f : Byte) : Cond → Bool
  | .nz => !flag f maskZ
  | .z => flag f maskZ
  | .nc => !flag f maskC
  | .c => flag f maskC
  | .po => !flag f maskPV
  | .pe => flag f maskPV
  | .p => !flag f maskS
  | .m => flag f maskS

/-- 30 R115: the condition of a relative jump, `CC[y-4]`. -/
def relCond : RelCond → Cond
  | .nz => .nz
  | .z => .z
  | .nc => .nc
  | .c => .c

end Sys2Proof.Machine
end

