-- ==== Sys2Proof/Machine/Region.lean ====
section
/-! DEFINITION. The bus map as data (20 section 2): regions, which region an address falls in, the offset in its store,
and 20 R63's invariant of a map. -/

namespace Sys2Proof.Machine

/-- 20 R61 `access`. -/
inductive Access where
  | readOnly | readWrite
deriving DecidableEq, Repr

/-- A `MemoryRegion` (20 R61): base address, mask and access, with a backing store that is the slice of `length` bytes
from index `origin` of the machine's bytes. Which addresses the region matches is the platform's (20 R62, 91 N8); here
it is the window `first` to `last` (DESIGN CHOICE, log entries 5 and 6). -/
structure Region where
  first : Word
  last : Word
  base : Word
  mask : Word
  access : Access
  origin : Nat
  length : Nat
deriving DecidableEq, Repr

/-- Whether a region matches an address (log entry 6). -/
def Region.covers (r : Region) (a : Word) : Bool := decide (r.first.toNat ≤ a.toNat) && decide (a.toNat ≤ r.last.toNat)

/-- `MAP(addr)`: the first region in evaluation order that matches (20 R62). -/
def mapAddr (m : List Region) (a : Word) : Option Region := m.find? (Region.covers · a)

/-- The offset in the region: subtract the base, then mask (20 R63). -/
def Region.offset (r : Region) (a : Word) : Nat := ((a - r.base) &&& r.mask).toNat

/-- Whether an address that a region matches has its offset inside the store. -/
def offsetInStore (m : List Region) (a : Word) : Bool :=
  match mapAddr m a with
  | none => true
  | some r => decide (r.offset a < r.length)

/-- 20 R63's invariant of a map: wherever a region answers, the offset is inside its backing store. -/
def mapInBounds (m : List Region) : Bool := (List.range 65536).all fun k => offsetInStore m (BitVec.ofNat 16 k)

/-- A map that keeps 20 R63's invariant: what the environment may put in force (60 R400). -/
structure BoundedMap where
  regions : List Region
  inBounds : mapInBounds regions = true
deriving DecidableEq, Repr

end Sys2Proof.Machine
end

