-- ==== Sys2Proof/Machine/State.lean ====
section
/-! DEFINITION. Everything the machine holds, as plain data: the registers and control state of 10, the lines and
latches of 10 section 5, memory and the bus map of 20, the output logs (trace and events), and the environment's inputs.
Then the reasons a step can stop, and the state after reset. -/

namespace Sys2Proof.Machine

/-- The space of a transaction (20 R80). -/
inductive Space where
  | mem | io
deriving DecidableEq, Repr

/-- The direction of a transaction (20 R80). -/
inductive Dir where
  | read | write
deriving DecidableEq, Repr

/-- The tag of a transaction (20 R81). -/
inductive Tag where
  /-- an opcode or prefix byte read by `FetchOpcode` -/
  | fetch
  /-- a displacement or immediate byte read by `FetchOperand` -/
  | fetchOperand
  /-- every other memory transaction -/
  | data
  /-- an I/O transaction -/
  | port
deriving DecidableEq, Repr

/-- One record of `TRACE` (20 R80): an addressed read or write cycle of one byte. -/
structure Transaction where
  space : Space
  dir : Dir
  addr : Word
  value : Byte
  tag : Tag
deriving DecidableEq, Repr

/-- What the engine emits to observers: the two instruction events (20 R83), and the "before" and "after" hook of each
bus transaction (20 R66, R67, R74, R75). -/
inductive Event where
  | executingInstruction
  | executedInstruction
  | reading (addr : Word)
  | read (addr : Word) (v : Byte)
  | writing (addr : Word) (v : Byte)
  | written (addr : Word) (v : Byte)
  | portReading (port : Byte)
  | portRead (port : Byte) (v : Byte)
  | portWriting (port : Byte) (v : Byte)
  | portWritten (port : Byte) (v : Byte)
deriving DecidableEq, Repr

/-- The input lines the environment drives (10 R44). `HALT` and `POWER` are the levels of `halted` and `powered`. -/
inductive Line where
  | reset | nmi | int
deriving DecidableEq, Repr

/-- A move of the environment at a bus hook (20 R78; 60 R400, 92 D30). It can change no register, flag, latch or control
bit of the block, has no move that lowers `NMI` or `RESET`, and none that puts a map in force which breaks 20 R63's
invariant. DESIGN CHOICE, log entry 16: 20 R78 lets a hook lower any line, where 60 R400 says that the model has no such
move; the model follows R400. -/
inductive EnvMove where
  /-- a byte of the backing stores, by its index -/
  | poke (index : Nat) (v : Byte)
  /-- what `MAP` returns from now on: a bank switch -/
  | remap (m : BoundedMap)
  | raiseReset
  | raiseNmi
  /-- raise or lower `INT` -/
  | driveInt (raised : Bool)
  /-- the input byte `INT_DATA` -/
  | intData (v : Byte)
deriving DecidableEq, Repr

/-- The state of the machine. -/
structure State where
  /-- `AF`: `A` above, the flags as stored below (10 R21, R32) -/
  af : Word
  /-- `BC` (10 R22) -/
  bc : Word
  /-- `DE` (10 R22) -/
  de : Word
  /-- `HL` (10 R22) -/
  hl : Word
  /-- `AF'` (10 R23) -/
  afAlt : Word
  /-- `BC'` (10 R23) -/
  bcAlt : Word
  /-- `DE'` (10 R23) -/
  deAlt : Word
  /-- `HL'` (10 R23) -/
  hlAlt : Word
  /-- `IX` (10 R24) -/
  ix : Word
  /-- `SP` (10 R25) -/
  sp : Word
  /-- `PC` (10 R29) -/
  pc : Word
  /-- `LATCH`, the internal address latch (10 R26) -/
  latch : Word
  /-- `I` (10 R36) -/
  i : Byte
  /-- `IM` (10 R37) -/
  im : IntMode
  /-- `IFF` (10 R38) -/
  iff : Bool
  /-- `halted`, and the level of the line `HALT` (10 R40, R44) -/
  halted : Bool
  /-- `powered`, and the level of the line `POWER` (10 R41, R44) -/
  powered : Bool
  /-- `faulted` (10 R43) -/
  faulted : Bool
  /-- `cycles` (10 R42) -/
  cycles : Nat
  /-- the level of the line `RESET` (10 R44) -/
  resetLine : Bool
  /-- the level of the line `NMI` (10 R44) -/
  nmiLine : Bool
  /-- the level of the line `INT` (10 R44) -/
  intLine : Bool
  /-- `INT_DATA` (10 R45) -/
  intData : Byte
  /-- the bus latch `ADDRESS` (10 R46) -/
  address : Word
  /-- the bus latch `DATA` (10 R46) -/
  data : Byte
  /-- the decode state of the step in progress (10 R47) -/
  pfx : PrefixState
  /-- the bytes of all backing stores, in canonical form (20 R60, R61; log entries 4 and 5) -/
  mem : List Host.Cell
  /-- `MAP`: the regions in evaluation order, the first that matches wins (20 R62) -/
  map : List Region
  /-- `TRACE`, oldest first (20 R80) -/
  trace : List Transaction
  /-- the events emitted, oldest first (20 R66 to R69, R83) -/
  events : List Event
  /-- MODEL'S OWN: the environment's moves at the bus hooks to come, next hook first; none left is no move
  (20 R78, R65; log entry 7) -/
  hooks : List (List EnvMove)
  /-- MODEL'S OWN: the answers the environment has ready for port reads, next first (20 R74; log entry 8) -/
  portIn : List Byte
  /-- MODEL'S OWN: how many free values have been drawn (log entry 9) -/
  draws : Nat
deriving DecidableEq, Repr

/-- The kind a `ConfigurationError` records (60 R370). -/
inductive ConfigKind where
  | unmapped | readOnly | outOfBounds
deriving DecidableEq, Repr

/-- The fatal conditions (60 R370), each with the state it leaves: `faulted` is set there, so that a step from it
changes nothing (60 R374). `RegisterIndexError` cannot occur (60 R373). Both stops are the spec's own: safe. -/
inductive Fault where
  /-- F1, raised by `step` when a powered step ends with `cycles = 0` (41 R194, 60 R371): `first` is the address of the
  first byte fetched, `bytes` the bytes fetched in this step. Safe: the hardware stops there too. -/
  | decodeFailure (left : State) (first : Word) (bytes : List Byte)
  /-- F2, raised by a memory transaction (20 R66 to R68, 60 R372). Safe: the hardware stops there too; it cannot occur
  on the REF bus (20 R65). -/
  | configurationError (left : State) (kind : ConfigKind) (addr : Word)
deriving DecidableEq, Repr

/-- Reasons to have no meaning for an instruction. -/
inductive Refusal where
  /-- Raised by `exec` for an instruction that has no meaning yet. Safe. No arm of this model raises it. -/
  | notModelled (mnemonic : String)
deriving DecidableEq, Repr

/-- The outcome of one instruction or one step. -/
abbrev Out := Host.Outcome State Fault Refusal

/-- The one region of the REF bus (20 R65): every address, offset equal to the address, 65536 bytes, read and write. -/
def refRegion : Region where
  first := 0x0000
  last := 0xFFFF
  base := 0x0000
  mask := 0xFFFF
  access := .readWrite
  origin := 0
  length := 65536

/-- The machine right after powerOn (10 R50, 70 R410) on the REF bus (20 R65), with no input given yet. The spec gives
no value for `A` and the registers and latches from `bc` on but `sp`, `pc` and `i`, for the lines, and for memory:
DESIGN CHOICE, log entries 1 to 4. -/
def State.reset : State where
  af := 0x0000
  bc := 0x0000
  de := 0x0000
  hl := 0x0000
  afAlt := 0x0000
  bcAlt := 0x0000
  deAlt := 0x0000
  hlAlt := 0x0000
  ix := 0x0000
  sp := 0xFFFF
  pc := 0x0000
  latch := 0x0000
  i := 0x00
  im := .im0
  iff := false
  halted := false
  powered := true
  faulted := false
  cycles := 0
  resetLine := false
  nmiLine := false
  intLine := false
  intData := 0x00
  address := 0x0000
  data := 0x00
  pfx := .none
  mem := []
  map := [refRegion]
  trace := []
  events := []
  hooks := []
  portIn := []
  draws := 0

end Sys2Proof.Machine
end

