-- ==== Sys2Proof/Machine/Memory.lean ====
section
/-! DEFINITION. Memory as a list of (index, byte) pairs in one canonical form: indices strictly rising, no entry equal to
what an unlisted index reads as. An index is a place in the machine's backing stores (20 R61); on the REF bus it is the
address (20 R65). -/

namespace Sys2Proof.Machine

/-- What an index that is not listed reads as. DESIGN CHOICE, log entry 4: the spec says only that memory at powerOn is
"whatever the environment loaded" (20 R65). -/
def Memory.unlisted : Byte := 0x00

/-- The byte at an index. -/
def Memory.read : List Host.Cell → Nat → Byte
  | [], _ => Memory.unlisted
  | (k, v) :: m, a => if a = k then v else Memory.read m a

/-- The list without what it holds at an index. -/
def Memory.erase : List Host.Cell → Nat → List Host.Cell
  | [], _ => []
  | (k, v) :: m, a => if a = k then Memory.erase m a else (k, v) :: Memory.erase m a

/-- The list with a pair put at its place, before the first index above it. -/
def Memory.insert : List Host.Cell → Nat → Byte → List Host.Cell
  | [], a, v => [(a, v)]
  | (k, w) :: m, a, v => if a < k then (a, v) :: (k, w) :: m else (k, w) :: Memory.insert m a v

/-- The store of one byte. It keeps the canonical form: the byte an unlisted index reads as is not listed. -/
def Memory.write (m : List Host.Cell) (a : Nat) (v : Byte) : List Host.Cell :=
  if v = Memory.unlisted then Memory.erase m a else Memory.insert (Memory.erase m a) a v

/-- The canonical form holds. -/
def Memory.wf : List Host.Cell → Bool
  | [] => true
  | (k, v) :: m => decide (v ≠ Memory.unlisted) && m.all (fun c => decide (k < c.1)) && Memory.wf m

end Sys2Proof.Machine
end

