-- ==== Sys2Proof/Machine/Ops.lean ====
section
/-! DEFINITION. The named operations over the state: the registers, the bus of 20 with its hooks and faults, the fetches
of 41, the stack, and taking a reset, an interrupt, and the return from one (60, 70). -/

namespace Sys2Proof.Machine

/-- What an operation of the engine answers: a value with the state after it, or the fatal condition it raised. -/
inductive Res (α : Type) where
  | ok (a : α) (s : State)
  | fault (f : Fault)
deriving DecidableEq, Repr

/-- One operation after another: a fault ends both. -/
def Res.bind {α β : Type} (r : Res α) (k : α → State → Res β) : Res β :=
  match r with
  | .ok a s => k a s
  | .fault f => .fault f

/-! ## Registers (10 sections 1 to 4) -/

/-- `cycles += n` (00 R15). -/
def State.addCycles (s : State) (n : Nat) : State := { s with cycles := s.cycles + n }

/-- The end of an arm: its cost is added once, after its pseudocode (41 R193). -/
def Res.finish (r : Res Unit) (cost : Nat) : Out :=
  match r with
  | .ok _ s => .next (s.addCycles cost)
  | .fault f => .fault f

/-- A read of `F`: the stored byte with the reserved bits forced (10 R31). -/
def State.readF (s : State) : Byte := normFlags (loByte s.af)

/-- `F <- v`: all eight bits are stored (10 R32). -/
def State.writeF (s : State) (v : Byte) : State := { s with af := joinBytes (hiByte s.af) v }

/-- `A` (10 R21). -/
def State.readA (s : State) : Byte := hiByte s.af

/-- `A <- v`; the other half of the pair is unchanged (10 R20). -/
def State.writeA (s : State) (v : Byte) : State := { s with af := joinBytes v (loByte s.af) }

/-- A read of an 8-bit register (10 R20, R22; 30 R112). -/
def State.read8 (s : State) : Reg8 → Byte
  | .b => hiByte s.bc
  | .c => loByte s.bc
  | .d => hiByte s.de
  | .e => loByte s.de
  | .h => hiByte s.hl
  | .l => loByte s.hl
  | .a => s.readA

/-- A write of an 8-bit register: the pair is changed in place, its other half is not (10 R20). -/
def State.write8 (s : State) (r : Reg8) (v : Byte) : State :=
  match r with
  | .b => { s with bc := joinBytes v (loByte s.bc) }
  | .c => { s with bc := joinBytes (hiByte s.bc) v }
  | .d => { s with de := joinBytes v (loByte s.de) }
  | .e => { s with de := joinBytes (hiByte s.de) v }
  | .h => { s with hl := joinBytes v (loByte s.hl) }
  | .l => { s with hl := joinBytes (hiByte s.hl) v }
  | .a => s.writeA v

/-- A read of a 16-bit register (30 R113). -/
def State.read16 (s : State) : Reg16 → Word
  | .bc => s.bc
  | .de => s.de
  | .hl => s.hl
  | .sp => s.sp
  | .ix => s.ix

/-- A write of a 16-bit register (30 R113). -/
def State.write16 (s : State) (r : Reg16) (w : Word) : State :=
  match r with
  | .bc => { s with bc := w }
  | .de => { s with de := w }
  | .hl => { s with hl := w }
  | .sp => { s with sp := w }
  | .ix => { s with ix := w }

/-- What `PUSH` pushes (30 R114); for `AF` the low byte is the masked read of `F` (42 R230). -/
def State.readStackReg (s : State) : StackReg → Word
  | .bc => s.bc
  | .de => s.de
  | .hl => s.hl
  | .af => joinBytes s.readA s.readF
  | .ix => s.ix

/-- What `POP` writes (30 R114); for `AF` all of `F_raw` is replaced (42 R231). -/
def State.writeStackReg (s : State) (r : StackReg) (w : Word) : State :=
  match r with
  | .bc => { s with bc := w }
  | .de => { s with de := w }
  | .hl => { s with hl := w }
  | .af => { s with af := w }
  | .ix => { s with ix := w }

/-- 41 R192 `HLX`. -/
def hlxReg : HLX → Reg16
  | .hl => .hl
  | .ix => .ix

/-- 30 R113 `RP[p]`; its third entry is the pair the prefix swaps. -/
def pairReg (x : HLX) : Pair → Reg16
  | .bc => .bc
  | .de => .de
  | .third => hlxReg x
  | .sp => .sp

/-- `PC <- w`. -/
def State.writePC (s : State) (w : Word) : State := { s with pc := w }

/-- `SP <- w`. -/
def State.writeSP (s : State) (w : Word) : State := { s with sp := w }

/-- `LATCH <- w` (41 R189). -/
def State.writeLatch (s : State) (w : Word) : State := { s with latch := w }

/-- `I <- v` (47 R347). -/
def State.writeI (s : State) (v : Byte) : State := { s with i := v }

/-- `IM <- m` (47 R346). -/
def State.writeIM (s : State) (m : IntMode) : State := { s with im := m }

/-- `IFF <- b` (10 R38). -/
def State.writeIFF (s : State) (b : Bool) : State := { s with iff := b }

/-- `halted <- b`, and the level of the line `HALT` with it (10 R40). -/
def State.writeHalted (s : State) (b : Bool) : State := { s with halted := b }

/-- The decode state of the step in progress (10 R47). -/
def State.writePfx (s : State) (p : PrefixState) : State := { s with pfx := p }

/-- The exchange of `AF` with `AF'` (42 R236). -/
def State.exchangeAF (s : State) : State := { s with af := s.afAlt, afAlt := s.af }

/-- The exchange of `BC`, `DE`, `HL` with `BC'`, `DE'`, `HL'` (42 R237). -/
def State.exchangeBank (s : State) : State :=
  { s with bc := s.bcAlt, de := s.deAlt, hl := s.hlAlt, bcAlt := s.bc, deAlt := s.de, hlAlt := s.hl }

/-! ## The bus (20) -/

/-- The bus latch `ADDRESS` (10 R46). -/
def State.writeAddress (s : State) (a : Word) : State := { s with address := a }

/-- The bus latch `DATA` (10 R46). -/
def State.writeData (s : State) (v : Byte) : State := { s with data := v }

/-- A byte of the backing stores. -/
def State.writeMem (s : State) (k : Nat) (v : Byte) : State := { s with mem := Memory.write s.mem k v }

/-- `TRACE <- TRACE ++ [t]` (20 R66, R67). -/
def State.record (s : State) (t : Transaction) : State := { s with trace := s.trace ++ [t] }

/-- The event log, one event longer. -/
def State.emit (s : State) (e : Event) : State := { s with events := s.events ++ [e] }

/-- `MAP` from now on. -/
def State.writeMap (s : State) (m : List Region) : State := { s with map := m }

/-- The level of an input line. -/
def State.drive (s : State) (line : Line) (raised : Bool) : State :=
  match line with
  | .reset => { s with resetLine := raised }
  | .nmi => { s with nmiLine := raised }
  | .int => { s with intLine := raised }

/-- `INT_DATA`. -/
def State.writeIntData (s : State) (v : Byte) : State := { s with intData := v }

/-- The environment's moves still to come. -/
def State.writeHooks (s : State) (h : List (List EnvMove)) : State := { s with hooks := h }

/-- One move of the environment at a hook (20 R78, 60 R400). -/
def State.apply (s : State) : EnvMove → State
  | .poke k v => s.writeMem k v
  | .remap m => s.writeMap m.regions
  | .raiseReset => s.drive .reset true
  | .raiseNmi => s.drive .nmi true
  | .driveInt raised => s.drive .int raised
  | .intData v => s.writeIntData v

/-- The moves of the environment at one hook, in order. -/
def State.applyAll (s : State) : List EnvMove → State
  | [] => s
  | m :: rest => (s.apply m).applyAll rest

/-- A bus hook: the event is emitted, and the environment may act before the engine goes on (20 R69, R78). On the REF
bus nothing is left in `hooks` and nothing happens (20 R65). -/
def State.hook (s : State) (e : Event) : State :=
  match s.hooks with
  | [] => s.emit e
  | moves :: rest => ((s.emit e).writeHooks rest).applyAll moves

/-- Raising `ConfigurationError` (60 R372, R374): the state left is the one at the failing transaction, `faulted` set;
the decode state is gone with the step (10 R47). -/
def configFault {α : Type} (kind : ConfigKind) (a : Word) (s : State) : Res α :=
  .fault (.configurationError { s with faulted := true, pfx := .none } kind a)

/-- 20 R66: `MemRead(addr, tag)`. The map is evaluated after the "before" hook, for this access (20 R62). -/
def memRead (a : Word) (tag : Tag) (s : State) : Res Byte :=
  let s1 := (s.writeAddress a).hook (.reading a)
  match mapAddr s1.map a with
  | none => configFault .unmapped a s1
  | some r =>
    if r.offset a < r.length then
      let v := Memory.read s1.mem (r.origin + r.offset a)
      let s2 := (s1.writeData v).hook (.read a v)
      .ok v (s2.record ⟨.mem, .read, a, v, tag⟩)
    else configFault .outOfBounds a s1

/-- 20 R67: `MemWrite(addr, v, tag)`. -/
def memWrite (a : Word) (v : Byte) (tag : Tag) (s : State) : Res Unit :=
  let s1 := ((s.writeAddress a).writeData v).hook (.writing a v)
  match mapAddr s1.map a with
  | none => configFault .unmapped a s1
  | some r =>
    match r.access with
    | .readOnly => configFault .readOnly a s1
    | .readWrite =>
      if r.offset a < r.length then
        let s2 := (s1.writeMem (r.origin + r.offset a) v).hook (.written a v)
        .ok () (s2.record ⟨.mem, .write, a, v, tag⟩)
      else configFault .outOfBounds a s1

/-- 20 R70: `MemRead16(addr, tag)`, low byte first, at the lower address. -/
def memRead16 (a : Word) (tag : Tag) (s : State) : Res Word :=
  (memRead a tag s).bind fun l s1 => (memRead (a + 1) tag s1).bind fun h s2 => .ok (joinBytes h l) s2

/-- 20 R70: `MemWrite16(addr, w, tag)`, low byte first, at the lower address. -/
def memWrite16 (a : Word) (w : Word) (tag : Tag) (s : State) : Res Unit :=
  (memWrite a (loByte w) tag s).bind fun _ s1 => memWrite (a + 1) (hiByte w) tag s1

/-- What the environment answers to a port read (20 R74 `IO_IN`): the answer it has ready, else a free value
(log entry 8). -/
def ioAnswer (port : Byte) (s : State) : Byte :=
  match s.portIn with
  | v :: _ => v
  | [] => Config.ioIn s.draws port

/-- The answer is used up, and the next free value is a fresh one. -/
def State.dropAnswer (s : State) : State := { s with portIn := s.portIn.tail, draws := s.draws + 1 }

/-- 20 R74: `IoRead(port)`. -/
def ioRead (port : Byte) (s : State) : Res Byte :=
  let s1 := (s.writeAddress (zeroExt port)).hook (.portReading port)
  let v := ioAnswer port s1
  let s2 := (s1.dropAnswer.writeData v).hook (.portRead port v)
  .ok v (s2.record ⟨.io, .read, zeroExt port, v, .port⟩)

/-- 20 R75: `IoWrite(port, v)`. The byte is handed to the environment: the trace and the events hold it. -/
def ioWrite (port : Byte) (v : Byte) (s : State) : Res Unit :=
  let s1 := ((s.writeAddress (zeroExt port)).writeData v).hook (.portWriting port v)
  let s2 := s1.hook (.portWritten port v)
  .ok () (s2.record ⟨.io, .write, zeroExt port, v, .port⟩)

/-! ## The stack (20 R71) -/

/-- 20 R71: `Push16(w)`, high byte first, at the higher address. -/
def push16 (w : Word) (s : State) : Res Unit :=
  let s1 := s.writeSP (s.sp + 0xFFFF)
  (memWrite s1.sp (hiByte w) .data s1).bind fun _ s2 =>
    let s3 := s2.writeSP (s2.sp + 0xFFFF)
    memWrite s3.sp (loByte w) .data s3

/-- 20 R71: `Pop16()`, low byte first. -/
def pop16 (s : State) : Res Word :=
  (memRead s.sp .data s).bind fun l s1 =>
    let s2 := s1.writeSP (s1.sp + 1)
    (memRead s2.sp .data s2).bind fun h s3 => .ok (joinBytes h l) (s3.writeSP (s3.sp + 1))

/-! ## Fetch (41 section 2) -/

/-- 41 R186, R187: a byte read at `PC`, which then advances by one. `FetchOpcode` with tag `fetch`, `FetchOperand` with
tag `fetchOperand`. -/
def fetchByte (tag : Tag) (s : State) : Res Byte :=
  (memRead s.pc tag s).bind fun b s1 => .ok b (s1.writePC (s1.pc + 1))

/-- 41 R188: `FetchOperand16()`. -/
def fetchWord (s : State) : Res Word :=
  (fetchByte .fetchOperand s).bind fun l s1 => (fetchByte .fetchOperand s1).bind fun h s2 => .ok (joinBytes h l) s2

/-- The address of `(IX+d)` (10 R24). -/
def State.indexed (s : State) (d : Byte) : Word := s.ix + signExt d

/-- 41 R192: `FetchDisplacement()`, which leaves `IX+d` in `LATCH`. -/
def fetchDisplacement (s : State) : Res Byte :=
  (fetchByte .fetchOperand s).bind fun d s1 => .ok d (s1.writeLatch (s1.indexed d))

/-- The operand bytes of an arm, in the order its format gives (30 R103, R104): the instruction, or nothing where the
table has no arm (30 R128). -/
def fetchOperands (a : Arm) (s : State) : Res (Option Instr) :=
  match a with
  | .undefined => .ok none s
  | .op i => .ok (some i) s
  | .byte f => (fetchByte .fetchOperand s).bind fun n s1 => .ok (some (f n)) s1
  | .word f => (fetchWord s).bind fun nn s1 => .ok (some (f nn)) s1
  | .disp f => (fetchDisplacement s).bind fun d s1 => .ok (some (f d)) s1
  | .dispByte f =>
    (fetchDisplacement s).bind fun d s1 => (fetchByte .fetchOperand s1).bind fun n s2 => .ok (some (f d n)) s2

/-- One opcode byte, looked up in the table the decode state selects, and its operand bytes (41 R185, R190). -/
def fetchUnit (s : State) : Res (Option Instr) :=
  (fetchByte .fetch s).bind fun op s1 => fetchOperands (armOf s1.pfx op) s1

/-! ## Reset and interrupts (60 section 3, 70 R413) -/

/-- 60 R381: leaving Halted. `PC`, which holds the address of the `HALT` byte, moves past it. -/
def State.wake (s : State) : State := if s.halted then (s.writeHalted false).writePC (s.pc + 1) else s

/-- Taking an interrupt, the part all dispatch variants share (60 R380): the return address goes onto the stack. It is
the only state saved. Flags and mode do not change. -/
def saveReturn (s : State) : Res Unit := push16 s.pc s

/-- 60 R382: `service_nmi()`, its cost 11 added by the caller. -/
def enterNmi (s : State) : Res Unit :=
  (saveReturn (s.drive .nmi false).wake).bind fun _ s1 => .ok () (s1.writePC 0x0066)

/-- 60 R384: mode 0, the target named by bits 5 to 3 of `INT_DATA`. -/
def enterIntMode0 (s : State) : Res Unit :=
  (saveReturn s).bind fun _ s1 => .ok () (s1.writePC (zeroExt (s.intData &&& 0x38)))

/-- 60 R385: mode 1, the fixed vector. -/
def enterIntMode1 (s : State) : Res Unit :=
  (saveReturn s).bind fun _ s1 => .ok () (s1.writePC 0x0038)

/-- 60 R386: mode 2, the vector table at `I` and `INT_DATA`. -/
def enterIntMode2 (s : State) : Res Unit :=
  (saveReturn s).bind fun _ s1 =>
    let a := joinBytes s1.i s.intData
    (memRead16 a .data (s1.writeLatch a)).bind fun t s2 => .ok () (s2.writePC t)

/-- 60 R383: `service_int()`, its cost (60 R388) added at the end. -/
def serviceInt (s : State) : Out :=
  let s1 := s.wake.writeIFF false
  match s1.im with
  | .im0 => (enterIntMode0 s1).finish 13
  | .im1 => (enterIntMode1 s1).finish 13
  | .im2 => (enterIntMode2 s1).finish 19

/-- 60 R382: `service_nmi()`. -/
def serviceNmi (s : State) : Out := (enterNmi s).finish 11

/-- 70 R413: `service_reset()`. No transaction, nothing pushed; `powered` is unchanged. -/
def State.resetCore (s : State) : State :=
  { s with resetLine := false, halted := false, pc := 0x0000, sp := 0xFFFF,
           af := joinBytes (hiByte s.af) 0x00, iff := false, im := .im0 }

/-- 70 R413: `service_reset()` with its cost. -/
def serviceReset (s : State) : Out := .next (s.resetCore.addCycles 3)

/-- 41 R184: the halted step, the cost of one `NOP` and nothing else. -/
def haltedStep (s : State) : Out := .next (s.addCycles 4)

/-- The return (60 R389): `PC <- Pop16()`. -/
def returnPC (s : State) : Res Unit := (pop16 s).bind fun t s1 => .ok () (s1.writePC t)

end Sys2Proof.Machine
end

