-- ==== Sys2Proof/Machine/Operands.lean ====
section
/-! DEFINITION. The operand forms of 30 R112 and R117: reading and writing an operand selected by `R8`, and the right
operand of the accumulator operations. -/

namespace Sys2Proof.Machine

/-- 41 R192 `Read8(i)`. For `(IX+d)` the displacement has been fetched: `LATCH` holds `IX+d`, the address read. -/
def readLoc (l : Loc) (s : State) : Res Byte :=
  match l with
  | .reg r => .ok (s.read8 r) s
  | .atHL => memRead s.hl .data s
  | .atIX d => memRead (s.indexed d) .data (s.writeLatch (s.indexed d))

/-- 41 R192 `Write8(i, v)`. -/
def writeLoc (l : Loc) (v : Byte) (s : State) : Res Unit :=
  match l with
  | .reg r => .ok () (s.write8 r v)
  | .atHL => memWrite s.hl v .data s
  | .atIX d => memWrite (s.indexed d) v .data (s.writeLatch (s.indexed d))

/-- 43 section 1, `operand()`: the right operand of an accumulator operation. An immediate has been fetched. -/
def readSrc (src : AluSrc) (s : State) : Res Byte :=
  match src with
  | .loc l => readLoc l s
  | .imm n => .ok n s

end Sys2Proof.Machine
end

