-- ==== Sys2Proof/Machine/Arith.lean ====
section
/-! DEFINITION. Arithmetic and logic (43). First the operations, each once for all operand forms, with the cost of the
form as its last number; then the meaning of each instruction. -/

namespace Sys2Proof.Machine

/-- 43 R250 to R257: the eight accumulator operations. The operand is read before `A` is written; `F` on the right is
the masked read. -/
def alu (op : AluOp) (src : AluSrc) (cost : Nat) (s : State) : Out :=
  ((readSrc src s).bind fun v s1 =>
    let result := aluResult op s1.readF s1.readA v
    .ok () ((s1.writeA result.1).writeF result.2)).finish cost

/-- 43 R262: `INC r`, `INC (HL)`, `INC (IX+d)`. -/
def inc8 (l : Loc) (cost : Nat) (s : State) : Out :=
  ((readLoc l s).bind fun v s1 =>
    let result := incFlags s1.readF v
    (writeLoc l result.1 s1).bind fun _ s2 => .ok () (s2.writeF result.2)).finish cost

/-- 43 R263: `DEC r`, `DEC (HL)`, `DEC (IX+d)`. -/
def dec8 (l : Loc) (cost : Nat) (s : State) : Out :=
  ((readLoc l s).bind fun v s1 =>
    let result := decFlags s1.readF v
    (writeLoc l result.1 s1).bind fun _ s2 => .ok () (s2.writeF result.2)).finish cost

/-- 43 R265: `CPL`. -/
def complementA (cost : Nat) (s : State) : Out := .next ((s.writeA (~~~s.readA)).addCycles cost)

/-- 43 R266: `SCF`. -/
def setCarry (cost : Nat) (s : State) : Out :=
  .next ((s.writeF (setFlag s.readF maskC true)).addCycles cost)

/-- 43 R267: `CCF`. -/
def flipCarry (cost : Nat) (s : State) : Out :=
  .next ((s.writeF (setFlag s.readF maskC (!flag s.readF maskC))).addCycles cost)

/-- 43 R270, R271: `ADD HL,rp`, `ADD IX,rp`. Only `C` changes among the flags. -/
def add16 (x : HLX) (p : Pair) (cost : Nat) (s : State) : Out :=
  let left := s.read16 (hlxReg x)
  let right := s.read16 (pairReg x p)
  let carry := decide (left.toNat + right.toNat > 0xFFFF)
  .next (((s.write16 (hlxReg x) (left + right)).writeF (setFlag s.readF maskC carry)).addCycles cost)

/-- 43 R272: `INC rp`, `INC IX`. -/
def inc16 (r : Reg16) (cost : Nat) (s : State) : Out :=
  .next ((s.write16 r (s.read16 r + 1)).addCycles cost)

/-- 43 R273: `DEC rp`, `DEC IX`. -/
def dec16 (r : Reg16) (cost : Nat) (s : State) : Out :=
  .next ((s.write16 r (s.read16 r + 0xFFFF)).addCycles cost)

/-- `INC BC`: 43 R272. -/
def execIncBC (s : State) : Out := inc16 .bc 6 s
/-- `INC B`: 43 R262. -/
def execIncB (s : State) : Out := inc8 (.reg .b) 4 s
/-- `DEC B`: 43 R263. -/
def execDecB (s : State) : Out := dec8 (.reg .b) 4 s
/-- `ADD HL,BC`: 43 R270. -/
def execAddHL_BC (s : State) : Out := add16 .hl .bc 11 s
/-- `DEC BC`: 43 R273. -/
def execDecBC (s : State) : Out := dec16 .bc 6 s
/-- `INC C`: 43 R262. -/
def execIncC (s : State) : Out := inc8 (.reg .c) 4 s
/-- `DEC C`: 43 R263. -/
def execDecC (s : State) : Out := dec8 (.reg .c) 4 s
/-- `INC DE`: 43 R272. -/
def execIncDE (s : State) : Out := inc16 .de 6 s
/-- `INC D`: 43 R262. -/
def execIncD (s : State) : Out := inc8 (.reg .d) 4 s
/-- `DEC D`: 43 R263. -/
def execDecD (s : State) : Out := dec8 (.reg .d) 4 s
/-- `ADD HL,DE`: 43 R270. -/
def execAddHL_DE (s : State) : Out := add16 .hl .de 11 s
/-- `DEC DE`: 43 R273. -/
def execDecDE (s : State) : Out := dec16 .de 6 s
/-- `INC E`: 43 R262. -/
def execIncE (s : State) : Out := inc8 (.reg .e) 4 s
/-- `DEC E`: 43 R263. -/
def execDecE (s : State) : Out := dec8 (.reg .e) 4 s
/-- `INC HL`: 43 R272. -/
def execIncHL (s : State) : Out := inc16 .hl 6 s
/-- `INC H`: 43 R262. -/
def execIncH (s : State) : Out := inc8 (.reg .h) 4 s
/-- `DEC H`: 43 R263. -/
def execDecH (s : State) : Out := dec8 (.reg .h) 4 s
/-- `ADD HL,HL`: 43 R270. -/
def execAddHL_HL (s : State) : Out := add16 .hl .third 11 s
/-- `DEC HL`: 43 R273. -/
def execDecHL (s : State) : Out := dec16 .hl 6 s
/-- `INC L`: 43 R262. -/
def execIncL (s : State) : Out := inc8 (.reg .l) 4 s
/-- `DEC L`: 43 R263. -/
def execDecL (s : State) : Out := dec8 (.reg .l) 4 s
/-- `CPL`: 43 R265. -/
def execCpl (s : State) : Out := complementA 4 s
/-- `INC SP`: 43 R272. -/
def execIncSP (s : State) : Out := inc16 .sp 6 s
/-- `INC (HL)`: 43 R262. -/
def execIncAtHL (s : State) : Out := inc8 .atHL 11 s
/-- `DEC (HL)`: 43 R263. -/
def execDecAtHL (s : State) : Out := dec8 .atHL 11 s
/-- `SCF`: 43 R266. -/
def execScf (s : State) : Out := setCarry 4 s
/-- `ADD HL,SP`: 43 R270. -/
def execAddHL_SP (s : State) : Out := add16 .hl .sp 11 s
/-- `DEC SP`: 43 R273. -/
def execDecSP (s : State) : Out := dec16 .sp 6 s
/-- `INC A`: 43 R262. -/
def execIncA (s : State) : Out := inc8 (.reg .a) 4 s
/-- `DEC A`: 43 R263. -/
def execDecA (s : State) : Out := dec8 (.reg .a) 4 s
/-- `CCF`: 43 R267. -/
def execCcf (s : State) : Out := flipCarry 4 s
/-- `ADD A,B`: 43 R250. -/
def execAddA_B (s : State) : Out := alu .add (.loc (.reg .b)) 4 s
/-- `ADD A,n`: 43 R250. -/
def execAddA_n (n : Byte) (s : State) : Out := alu .add (.imm n) 7 s
/-- `ADD A,D`: 43 R250. -/
def execAddA_D (s : State) : Out := alu .add (.loc (.reg .d)) 4 s
/-- `ADD A,E`: 43 R250. -/
def execAddA_E (s : State) : Out := alu .add (.loc (.reg .e)) 4 s
/-- `ADD A,H`: 43 R250. -/
def execAddA_H (s : State) : Out := alu .add (.loc (.reg .h)) 4 s
/-- `ADD A,L`: 43 R250. -/
def execAddA_L (s : State) : Out := alu .add (.loc (.reg .l)) 4 s
/-- `ADD A,(HL)`: 43 R250. -/
def execAddA_atHL (s : State) : Out := alu .add (.loc .atHL) 7 s
/-- `ADD A,A`: 43 R250. -/
def execAddA_A (s : State) : Out := alu .add (.loc (.reg .a)) 4 s
/-- `ADC A,B`: 43 R251. -/
def execAdcA_B (s : State) : Out := alu .adc (.loc (.reg .b)) 4 s
/-- `ADC A,n`: 43 R251. -/
def execAdcA_n (n : Byte) (s : State) : Out := alu .adc (.imm n) 7 s
/-- `ADC A,D`: 43 R251. -/
def execAdcA_D (s : State) : Out := alu .adc (.loc (.reg .d)) 4 s
/-- `ADC A,E`: 43 R251. -/
def execAdcA_E (s : State) : Out := alu .adc (.loc (.reg .e)) 4 s
/-- `ADC A,H`: 43 R251. -/
def execAdcA_H (s : State) : Out := alu .adc (.loc (.reg .h)) 4 s
/-- `ADC A,L`: 43 R251. -/
def execAdcA_L (s : State) : Out := alu .adc (.loc (.reg .l)) 4 s
/-- `ADC A,(HL)`: 43 R251. -/
def execAdcA_atHL (s : State) : Out := alu .adc (.loc .atHL) 7 s
/-- `ADC A,A`: 43 R251. -/
def execAdcA_A (s : State) : Out := alu .adc (.loc (.reg .a)) 4 s
/-- `SUB A,B`: 43 R252. -/
def execSubA_B (s : State) : Out := alu .sub (.loc (.reg .b)) 4 s
/-- `SUB A,n`: 43 R252. -/
def execSubA_n (n : Byte) (s : State) : Out := alu .sub (.imm n) 7 s
/-- `SUB A,D`: 43 R252. -/
def execSubA_D (s : State) : Out := alu .sub (.loc (.reg .d)) 4 s
/-- `SUB A,E`: 43 R252. -/
def execSubA_E (s : State) : Out := alu .sub (.loc (.reg .e)) 4 s
/-- `SUB A,H`: 43 R252. -/
def execSubA_H (s : State) : Out := alu .sub (.loc (.reg .h)) 4 s
/-- `SUB A,L`: 43 R252. -/
def execSubA_L (s : State) : Out := alu .sub (.loc (.reg .l)) 4 s
/-- `SUB A,(HL)`: 43 R252. -/
def execSubA_atHL (s : State) : Out := alu .sub (.loc .atHL) 7 s
/-- `SUB A,A`: 43 R252. -/
def execSubA_A (s : State) : Out := alu .sub (.loc (.reg .a)) 4 s
/-- `SBC A,B`: 43 R253. -/
def execSbcA_B (s : State) : Out := alu .sbc (.loc (.reg .b)) 4 s
/-- `SBC A,n`: 43 R253. -/
def execSbcA_n (n : Byte) (s : State) : Out := alu .sbc (.imm n) 7 s
/-- `SBC A,D`: 43 R253. -/
def execSbcA_D (s : State) : Out := alu .sbc (.loc (.reg .d)) 4 s
/-- `SBC A,E`: 43 R253. -/
def execSbcA_E (s : State) : Out := alu .sbc (.loc (.reg .e)) 4 s
/-- `SBC A,H`: 43 R253. -/
def execSbcA_H (s : State) : Out := alu .sbc (.loc (.reg .h)) 4 s
/-- `SBC A,L`: 43 R253. -/
def execSbcA_L (s : State) : Out := alu .sbc (.loc (.reg .l)) 4 s
/-- `SBC A,(HL)`: 43 R253. -/
def execSbcA_atHL (s : State) : Out := alu .sbc (.loc .atHL) 7 s
/-- `SBC A,A`: 43 R253. -/
def execSbcA_A (s : State) : Out := alu .sbc (.loc (.reg .a)) 4 s
/-- `AND A,B`: 43 R254. -/
def execAndA_B (s : State) : Out := alu .and (.loc (.reg .b)) 4 s
/-- `AND A,n`: 43 R254. -/
def execAndA_n (n : Byte) (s : State) : Out := alu .and (.imm n) 7 s
/-- `AND A,D`: 43 R254. -/
def execAndA_D (s : State) : Out := alu .and (.loc (.reg .d)) 4 s
/-- `AND A,E`: 43 R254. -/
def execAndA_E (s : State) : Out := alu .and (.loc (.reg .e)) 4 s
/-- `AND A,H`: 43 R254. -/
def execAndA_H (s : State) : Out := alu .and (.loc (.reg .h)) 4 s
/-- `AND A,L`: 43 R254. -/
def execAndA_L (s : State) : Out := alu .and (.loc (.reg .l)) 4 s
/-- `AND A,(HL)`: 43 R254. -/
def execAndA_atHL (s : State) : Out := alu .and (.loc .atHL) 7 s
/-- `AND A,A`: 43 R254. -/
def execAndA_A (s : State) : Out := alu .and (.loc (.reg .a)) 4 s
/-- `XOR A,B`: 43 R255. -/
def execXorA_B (s : State) : Out := alu .xor (.loc (.reg .b)) 4 s
/-- `XOR A,n`: 43 R255. -/
def execXorA_n (n : Byte) (s : State) : Out := alu .xor (.imm n) 7 s
/-- `XOR A,D`: 43 R255. -/
def execXorA_D (s : State) : Out := alu .xor (.loc (.reg .d)) 4 s
/-- `XOR A,E`: 43 R255. -/
def execXorA_E (s : State) : Out := alu .xor (.loc (.reg .e)) 4 s
/-- `XOR A,H`: 43 R255. -/
def execXorA_H (s : State) : Out := alu .xor (.loc (.reg .h)) 4 s
/-- `XOR A,L`: 43 R255. -/
def execXorA_L (s : State) : Out := alu .xor (.loc (.reg .l)) 4 s
/-- `XOR A,(HL)`: 43 R255. -/
def execXorA_atHL (s : State) : Out := alu .xor (.loc .atHL) 7 s
/-- `XOR A,A`: 43 R255. -/
def execXorA_A (s : State) : Out := alu .xor (.loc (.reg .a)) 4 s
/-- `OR A,B`: 43 R256. -/
def execOrA_B (s : State) : Out := alu .or (.loc (.reg .b)) 4 s
/-- `OR A,n`: 43 R256. -/
def execOrA_n (n : Byte) (s : State) : Out := alu .or (.imm n) 7 s
/-- `OR A,D`: 43 R256. -/
def execOrA_D (s : State) : Out := alu .or (.loc (.reg .d)) 4 s
/-- `OR A,E`: 43 R256. -/
def execOrA_E (s : State) : Out := alu .or (.loc (.reg .e)) 4 s
/-- `OR A,H`: 43 R256. -/
def execOrA_H (s : State) : Out := alu .or (.loc (.reg .h)) 4 s
/-- `OR A,L`: 43 R256. -/
def execOrA_L (s : State) : Out := alu .or (.loc (.reg .l)) 4 s
/-- `OR A,(HL)`: 43 R256. -/
def execOrA_atHL (s : State) : Out := alu .or (.loc .atHL) 7 s
/-- `OR A,A`: 43 R256. -/
def execOrA_A (s : State) : Out := alu .or (.loc (.reg .a)) 4 s
/-- `CP A,B`: 43 R257. -/
def execCpA_B (s : State) : Out := alu .cp (.loc (.reg .b)) 4 s
/-- `CP A,n`: 43 R257. -/
def execCpA_n (n : Byte) (s : State) : Out := alu .cp (.imm n) 7 s
/-- `CP A,D`: 43 R257. -/
def execCpA_D (s : State) : Out := alu .cp (.loc (.reg .d)) 4 s
/-- `CP A,E`: 43 R257. -/
def execCpA_E (s : State) : Out := alu .cp (.loc (.reg .e)) 4 s
/-- `CP A,H`: 43 R257. -/
def execCpA_H (s : State) : Out := alu .cp (.loc (.reg .h)) 4 s
/-- `CP A,L`: 43 R257. -/
def execCpA_L (s : State) : Out := alu .cp (.loc (.reg .l)) 4 s
/-- `CP A,(HL)`: 43 R257. -/
def execCpA_atHL (s : State) : Out := alu .cp (.loc .atHL) 7 s
/-- `CP A,A`: 43 R257. -/
def execCpA_A (s : State) : Out := alu .cp (.loc (.reg .a)) 4 s
/-- `ADD IX,BC`: 43 R271. -/
def execAddIX_BC (s : State) : Out := add16 .ix .bc 15 s
/-- `ADD IX,DE`: 43 R271. -/
def execAddIX_DE (s : State) : Out := add16 .ix .de 15 s
/-- `INC IX`: 43 R272. -/
def execIncIX (s : State) : Out := inc16 .ix 10 s
/-- `ADD IX,IX`: 43 R271. -/
def execAddIX_IX (s : State) : Out := add16 .ix .third 15 s
/-- `DEC IX`: 43 R273. -/
def execDecIX (s : State) : Out := dec16 .ix 10 s
/-- `INC (IX+d)`: 43 R262. -/
def execIncIXd (d : Byte) (s : State) : Out := inc8 (.atIX d) 23 s
/-- `DEC (IX+d)`: 43 R263. -/
def execDecIXd (d : Byte) (s : State) : Out := dec8 (.atIX d) 23 s
/-- `ADD IX,SP`: 43 R271. -/
def execAddIX_SP (s : State) : Out := add16 .ix .sp 15 s
/-- `ADD A,(IX+d)`: 43 R250. -/
def execAddA_IXd (d : Byte) (s : State) : Out := alu .add (.loc (.atIX d)) 19 s
/-- `ADC A,(IX+d)`: 43 R251. -/
def execAdcA_IXd (d : Byte) (s : State) : Out := alu .adc (.loc (.atIX d)) 19 s
/-- `SUB A,(IX+d)`: 43 R252. -/
def execSubA_IXd (d : Byte) (s : State) : Out := alu .sub (.loc (.atIX d)) 19 s
/-- `SBC A,(IX+d)`: 43 R253. -/
def execSbcA_IXd (d : Byte) (s : State) : Out := alu .sbc (.loc (.atIX d)) 19 s
/-- `AND A,(IX+d)`: 43 R254. -/
def execAndA_IXd (d : Byte) (s : State) : Out := alu .and (.loc (.atIX d)) 19 s
/-- `XOR A,(IX+d)`: 43 R255. -/
def execXorA_IXd (d : Byte) (s : State) : Out := alu .xor (.loc (.atIX d)) 19 s
/-- `OR A,(IX+d)`: 43 R256. -/
def execOrA_IXd (d : Byte) (s : State) : Out := alu .or (.loc (.atIX d)) 19 s
/-- `CP A,(IX+d)`: 43 R257. -/
def execCpA_IXd (d : Byte) (s : State) : Out := alu .cp (.loc (.atIX d)) 19 s

end Sys2Proof.Machine
end

