-- ==== Sys2Proof/Machine/BitOps.lean ====
section
/-! DEFINITION. Rotates, shifts, bit test, reset and set (45). First the operations, each once for all operand forms, with
the cost of the form as its last number; then the meaning of each instruction. -/

namespace Sys2Proof.Machine

/-- 45 R290 to R296: a rotate or shift by one bit. -/
def rot (op : RotOp) (l : Loc) (cost : Nat) (s : State) : Out :=
  ((readLoc l s).bind fun v s1 =>
    let result := rotate op (flag s1.readF maskC) v
    (writeLoc l result.1 s1).bind fun _ s2 =>
      .ok () (s2.writeF (shiftFlags s1.readF result.1 result.2))).finish cost

/-- 45 R300: `BIT y,r`. The operand is not written. -/
def bitTest (y : Oct) (l : Loc) (cost : Nat) (s : State) : Out :=
  ((readLoc l s).bind fun v s1 => .ok () (s1.writeF (bitTestFlags s1.readF v y))).finish cost

/-- 45 R301: `RES y,r`. The write is always made. -/
def bitReset (y : Oct) (l : Loc) (cost : Nat) (s : State) : Out :=
  ((readLoc l s).bind fun v s1 => writeLoc l (resetBit v y) s1).finish cost

/-- 45 R302: `SET y,r`. The write is always made. -/
def bitSet (y : Oct) (l : Loc) (cost : Nat) (s : State) : Out :=
  ((readLoc l s).bind fun v s1 => writeLoc l (setBit v y) s1).finish cost

/-- `RLC B`: 45 R290. -/
def execRlcB (s : State) : Out := rot .rlc (.reg .b) 8 s
/-- `RLC C`: 45 R290. -/
def execRlcC (s : State) : Out := rot .rlc (.reg .c) 8 s
/-- `RLC D`: 45 R290. -/
def execRlcD (s : State) : Out := rot .rlc (.reg .d) 8 s
/-- `RLC E`: 45 R290. -/
def execRlcE (s : State) : Out := rot .rlc (.reg .e) 8 s
/-- `RLC H`: 45 R290. -/
def execRlcH (s : State) : Out := rot .rlc (.reg .h) 8 s
/-- `RLC L`: 45 R290. -/
def execRlcL (s : State) : Out := rot .rlc (.reg .l) 8 s
/-- `RLC (HL)`: 45 R290. -/
def execRlcAtHL (s : State) : Out := rot .rlc .atHL 15 s
/-- `RLC A`: 45 R290. -/
def execRlcA (s : State) : Out := rot .rlc (.reg .a) 8 s
/-- `RRC B`: 45 R291. -/
def execRrcB (s : State) : Out := rot .rrc (.reg .b) 8 s
/-- `RRC C`: 45 R291. -/
def execRrcC (s : State) : Out := rot .rrc (.reg .c) 8 s
/-- `RRC D`: 45 R291. -/
def execRrcD (s : State) : Out := rot .rrc (.reg .d) 8 s
/-- `RRC E`: 45 R291. -/
def execRrcE (s : State) : Out := rot .rrc (.reg .e) 8 s
/-- `RRC H`: 45 R291. -/
def execRrcH (s : State) : Out := rot .rrc (.reg .h) 8 s
/-- `RRC L`: 45 R291. -/
def execRrcL (s : State) : Out := rot .rrc (.reg .l) 8 s
/-- `RRC (HL)`: 45 R291. -/
def execRrcAtHL (s : State) : Out := rot .rrc .atHL 15 s
/-- `RRC A`: 45 R291. -/
def execRrcA (s : State) : Out := rot .rrc (.reg .a) 8 s
/-- `RL B`: 45 R292. -/
def execRlB (s : State) : Out := rot .rl (.reg .b) 8 s
/-- `RL C`: 45 R292. -/
def execRlC (s : State) : Out := rot .rl (.reg .c) 8 s
/-- `RL D`: 45 R292. -/
def execRlD (s : State) : Out := rot .rl (.reg .d) 8 s
/-- `RL E`: 45 R292. -/
def execRlE (s : State) : Out := rot .rl (.reg .e) 8 s
/-- `RL H`: 45 R292. -/
def execRlH (s : State) : Out := rot .rl (.reg .h) 8 s
/-- `RL L`: 45 R292. -/
def execRlL (s : State) : Out := rot .rl (.reg .l) 8 s
/-- `RL (HL)`: 45 R292. -/
def execRlAtHL (s : State) : Out := rot .rl .atHL 15 s
/-- `RL A`: 45 R292. -/
def execRlA (s : State) : Out := rot .rl (.reg .a) 8 s
/-- `RR B`: 45 R293. -/
def execRrB (s : State) : Out := rot .rr (.reg .b) 8 s
/-- `RR C`: 45 R293. -/
def execRrC (s : State) : Out := rot .rr (.reg .c) 8 s
/-- `RR D`: 45 R293. -/
def execRrD (s : State) : Out := rot .rr (.reg .d) 8 s
/-- `RR E`: 45 R293. -/
def execRrE (s : State) : Out := rot .rr (.reg .e) 8 s
/-- `RR H`: 45 R293. -/
def execRrH (s : State) : Out := rot .rr (.reg .h) 8 s
/-- `RR L`: 45 R293. -/
def execRrL (s : State) : Out := rot .rr (.reg .l) 8 s
/-- `RR (HL)`: 45 R293. -/
def execRrAtHL (s : State) : Out := rot .rr .atHL 15 s
/-- `RR A`: 45 R293. -/
def execRrA (s : State) : Out := rot .rr (.reg .a) 8 s
/-- `SLA B`: 45 R294. -/
def execSlaB (s : State) : Out := rot .sla (.reg .b) 8 s
/-- `SLA C`: 45 R294. -/
def execSlaC (s : State) : Out := rot .sla (.reg .c) 8 s
/-- `SLA D`: 45 R294. -/
def execSlaD (s : State) : Out := rot .sla (.reg .d) 8 s
/-- `SLA E`: 45 R294. -/
def execSlaE (s : State) : Out := rot .sla (.reg .e) 8 s
/-- `SLA H`: 45 R294. -/
def execSlaH (s : State) : Out := rot .sla (.reg .h) 8 s
/-- `SLA L`: 45 R294. -/
def execSlaL (s : State) : Out := rot .sla (.reg .l) 8 s
/-- `SLA (HL)`: 45 R294. -/
def execSlaAtHL (s : State) : Out := rot .sla .atHL 15 s
/-- `SLA A`: 45 R294. -/
def execSlaA (s : State) : Out := rot .sla (.reg .a) 8 s
/-- `SRA B`: 45 R295. -/
def execSraB (s : State) : Out := rot .sra (.reg .b) 8 s
/-- `SRA C`: 45 R295. -/
def execSraC (s : State) : Out := rot .sra (.reg .c) 8 s
/-- `SRA D`: 45 R295. -/
def execSraD (s : State) : Out := rot .sra (.reg .d) 8 s
/-- `SRA E`: 45 R295. -/
def execSraE (s : State) : Out := rot .sra (.reg .e) 8 s
/-- `SRA H`: 45 R295. -/
def execSraH (s : State) : Out := rot .sra (.reg .h) 8 s
/-- `SRA L`: 45 R295. -/
def execSraL (s : State) : Out := rot .sra (.reg .l) 8 s
/-- `SRA (HL)`: 45 R295. -/
def execSraAtHL (s : State) : Out := rot .sra .atHL 15 s
/-- `SRA A`: 45 R295. -/
def execSraA (s : State) : Out := rot .sra (.reg .a) 8 s
/-- `SRL B`: 45 R296. -/
def execSrlB (s : State) : Out := rot .srl (.reg .b) 8 s
/-- `SRL C`: 45 R296. -/
def execSrlC (s : State) : Out := rot .srl (.reg .c) 8 s
/-- `SRL D`: 45 R296. -/
def execSrlD (s : State) : Out := rot .srl (.reg .d) 8 s
/-- `SRL E`: 45 R296. -/
def execSrlE (s : State) : Out := rot .srl (.reg .e) 8 s
/-- `SRL H`: 45 R296. -/
def execSrlH (s : State) : Out := rot .srl (.reg .h) 8 s
/-- `SRL L`: 45 R296. -/
def execSrlL (s : State) : Out := rot .srl (.reg .l) 8 s
/-- `SRL (HL)`: 45 R296. -/
def execSrlAtHL (s : State) : Out := rot .srl .atHL 15 s
/-- `SRL A`: 45 R296. -/
def execSrlA (s : State) : Out := rot .srl (.reg .a) 8 s
/-- `BIT 0,B`: 45 R300. -/
def execBit0_B (s : State) : Out := bitTest .y0 (.reg .b) 8 s
/-- `BIT 0,C`: 45 R300. -/
def execBit0_C (s : State) : Out := bitTest .y0 (.reg .c) 8 s
/-- `BIT 0,D`: 45 R300. -/
def execBit0_D (s : State) : Out := bitTest .y0 (.reg .d) 8 s
/-- `BIT 0,E`: 45 R300. -/
def execBit0_E (s : State) : Out := bitTest .y0 (.reg .e) 8 s
/-- `BIT 0,H`: 45 R300. -/
def execBit0_H (s : State) : Out := bitTest .y0 (.reg .h) 8 s
/-- `BIT 0,L`: 45 R300. -/
def execBit0_L (s : State) : Out := bitTest .y0 (.reg .l) 8 s
/-- `BIT 0,(HL)`: 45 R300. -/
def execBit0_atHL (s : State) : Out := bitTest .y0 .atHL 12 s
/-- `BIT 0,A`: 45 R300. -/
def execBit0_A (s : State) : Out := bitTest .y0 (.reg .a) 8 s
/-- `BIT 1,B`: 45 R300. -/
def execBit1_B (s : State) : Out := bitTest .y1 (.reg .b) 8 s
/-- `BIT 1,C`: 45 R300. -/
def execBit1_C (s : State) : Out := bitTest .y1 (.reg .c) 8 s
/-- `BIT 1,D`: 45 R300. -/
def execBit1_D (s : State) : Out := bitTest .y1 (.reg .d) 8 s
/-- `BIT 1,E`: 45 R300. -/
def execBit1_E (s : State) : Out := bitTest .y1 (.reg .e) 8 s
/-- `BIT 1,H`: 45 R300. -/
def execBit1_H (s : State) : Out := bitTest .y1 (.reg .h) 8 s
/-- `BIT 1,L`: 45 R300. -/
def execBit1_L (s : State) : Out := bitTest .y1 (.reg .l) 8 s
/-- `BIT 1,(HL)`: 45 R300. -/
def execBit1_atHL (s : State) : Out := bitTest .y1 .atHL 12 s
/-- `BIT 1,A`: 45 R300. -/
def execBit1_A (s : State) : Out := bitTest .y1 (.reg .a) 8 s
/-- `BIT 2,B`: 45 R300. -/
def execBit2_B (s : State) : Out := bitTest .y2 (.reg .b) 8 s
/-- `BIT 2,C`: 45 R300. -/
def execBit2_C (s : State) : Out := bitTest .y2 (.reg .c) 8 s
/-- `BIT 2,D`: 45 R300. -/
def execBit2_D (s : State) : Out := bitTest .y2 (.reg .d) 8 s
/-- `BIT 2,E`: 45 R300. -/
def execBit2_E (s : State) : Out := bitTest .y2 (.reg .e) 8 s
/-- `BIT 2,H`: 45 R300. -/
def execBit2_H (s : State) : Out := bitTest .y2 (.reg .h) 8 s
/-- `BIT 2,L`: 45 R300. -/
def execBit2_L (s : State) : Out := bitTest .y2 (.reg .l) 8 s
/-- `BIT 2,(HL)`: 45 R300. -/
def execBit2_atHL (s : State) : Out := bitTest .y2 .atHL 12 s
/-- `BIT 2,A`: 45 R300. -/
def execBit2_A (s : State) : Out := bitTest .y2 (.reg .a) 8 s
/-- `BIT 3,B`: 45 R300. -/
def execBit3_B (s : State) : Out := bitTest .y3 (.reg .b) 8 s
/-- `BIT 3,C`: 45 R300. -/
def execBit3_C (s : State) : Out := bitTest .y3 (.reg .c) 8 s
/-- `BIT 3,D`: 45 R300. -/
def execBit3_D (s : State) : Out := bitTest .y3 (.reg .d) 8 s
/-- `BIT 3,E`: 45 R300. -/
def execBit3_E (s : State) : Out := bitTest .y3 (.reg .e) 8 s
/-- `BIT 3,H`: 45 R300. -/
def execBit3_H (s : State) : Out := bitTest .y3 (.reg .h) 8 s
/-- `BIT 3,L`: 45 R300. -/
def execBit3_L (s : State) : Out := bitTest .y3 (.reg .l) 8 s
/-- `BIT 3,(HL)`: 45 R300. -/
def execBit3_atHL (s : State) : Out := bitTest .y3 .atHL 12 s
/-- `BIT 3,A`: 45 R300. -/
def execBit3_A (s : State) : Out := bitTest .y3 (.reg .a) 8 s
/-- `BIT 4,B`: 45 R300. -/
def execBit4_B (s : State) : Out := bitTest .y4 (.reg .b) 8 s
/-- `BIT 4,C`: 45 R300. -/
def execBit4_C (s : State) : Out := bitTest .y4 (.reg .c) 8 s
/-- `BIT 4,D`: 45 R300. -/
def execBit4_D (s : State) : Out := bitTest .y4 (.reg .d) 8 s
/-- `BIT 4,E`: 45 R300. -/
def execBit4_E (s : State) : Out := bitTest .y4 (.reg .e) 8 s
/-- `BIT 4,H`: 45 R300. -/
def execBit4_H (s : State) : Out := bitTest .y4 (.reg .h) 8 s
/-- `BIT 4,L`: 45 R300. -/
def execBit4_L (s : State) : Out := bitTest .y4 (.reg .l) 8 s
/-- `BIT 4,(HL)`: 45 R300. -/
def execBit4_atHL (s : State) : Out := bitTest .y4 .atHL 12 s
/-- `BIT 4,A`: 45 R300. -/
def execBit4_A (s : State) : Out := bitTest .y4 (.reg .a) 8 s
/-- `BIT 5,B`: 45 R300. -/
def execBit5_B (s : State) : Out := bitTest .y5 (.reg .b) 8 s
/-- `BIT 5,C`: 45 R300. -/
def execBit5_C (s : State) : Out := bitTest .y5 (.reg .c) 8 s
/-- `BIT 5,D`: 45 R300. -/
def execBit5_D (s : State) : Out := bitTest .y5 (.reg .d) 8 s
/-- `BIT 5,E`: 45 R300. -/
def execBit5_E (s : State) : Out := bitTest .y5 (.reg .e) 8 s
/-- `BIT 5,H`: 45 R300. -/
def execBit5_H (s : State) : Out := bitTest .y5 (.reg .h) 8 s
/-- `BIT 5,L`: 45 R300. -/
def execBit5_L (s : State) : Out := bitTest .y5 (.reg .l) 8 s
/-- `BIT 5,(HL)`: 45 R300. -/
def execBit5_atHL (s : State) : Out := bitTest .y5 .atHL 12 s
/-- `BIT 5,A`: 45 R300. -/
def execBit5_A (s : State) : Out := bitTest .y5 (.reg .a) 8 s
/-- `BIT 6,B`: 45 R300. -/
def execBit6_B (s : State) : Out := bitTest .y6 (.reg .b) 8 s
/-- `BIT 6,C`: 45 R300. -/
def execBit6_C (s : State) : Out := bitTest .y6 (.reg .c) 8 s
/-- `BIT 6,D`: 45 R300. -/
def execBit6_D (s : State) : Out := bitTest .y6 (.reg .d) 8 s
/-- `BIT 6,E`: 45 R300. -/
def execBit6_E (s : State) : Out := bitTest .y6 (.reg .e) 8 s
/-- `BIT 6,H`: 45 R300. -/
def execBit6_H (s : State) : Out := bitTest .y6 (.reg .h) 8 s
/-- `BIT 6,L`: 45 R300. -/
def execBit6_L (s : State) : Out := bitTest .y6 (.reg .l) 8 s
/-- `BIT 6,(HL)`: 45 R300. -/
def execBit6_atHL (s : State) : Out := bitTest .y6 .atHL 12 s
/-- `BIT 6,A`: 45 R300. -/
def execBit6_A (s : State) : Out := bitTest .y6 (.reg .a) 8 s
/-- `BIT 7,B`: 45 R300. -/
def execBit7_B (s : State) : Out := bitTest .y7 (.reg .b) 8 s
/-- `BIT 7,C`: 45 R300. -/
def execBit7_C (s : State) : Out := bitTest .y7 (.reg .c) 8 s
/-- `BIT 7,D`: 45 R300. -/
def execBit7_D (s : State) : Out := bitTest .y7 (.reg .d) 8 s
/-- `BIT 7,E`: 45 R300. -/
def execBit7_E (s : State) : Out := bitTest .y7 (.reg .e) 8 s
/-- `BIT 7,H`: 45 R300. -/
def execBit7_H (s : State) : Out := bitTest .y7 (.reg .h) 8 s
/-- `BIT 7,L`: 45 R300. -/
def execBit7_L (s : State) : Out := bitTest .y7 (.reg .l) 8 s
/-- `BIT 7,(HL)`: 45 R300. -/
def execBit7_atHL (s : State) : Out := bitTest .y7 .atHL 12 s
/-- `BIT 7,A`: 45 R300. -/
def execBit7_A (s : State) : Out := bitTest .y7 (.reg .a) 8 s
/-- `RES 0,B`: 45 R301. -/
def execRes0_B (s : State) : Out := bitReset .y0 (.reg .b) 8 s
/-- `RES 0,C`: 45 R301. -/
def execRes0_C (s : State) : Out := bitReset .y0 (.reg .c) 8 s
/-- `RES 0,D`: 45 R301. -/
def execRes0_D (s : State) : Out := bitReset .y0 (.reg .d) 8 s
/-- `RES 0,E`: 45 R301. -/
def execRes0_E (s : State) : Out := bitReset .y0 (.reg .e) 8 s
/-- `RES 0,H`: 45 R301. -/
def execRes0_H (s : State) : Out := bitReset .y0 (.reg .h) 8 s
/-- `RES 0,L`: 45 R301. -/
def execRes0_L (s : State) : Out := bitReset .y0 (.reg .l) 8 s
/-- `RES 0,(HL)`: 45 R301. -/
def execRes0_atHL (s : State) : Out := bitReset .y0 .atHL 15 s
/-- `RES 0,A`: 45 R301. -/
def execRes0_A (s : State) : Out := bitReset .y0 (.reg .a) 8 s
/-- `RES 1,B`: 45 R301. -/
def execRes1_B (s : State) : Out := bitReset .y1 (.reg .b) 8 s
/-- `RES 1,C`: 45 R301. -/
def execRes1_C (s : State) : Out := bitReset .y1 (.reg .c) 8 s
/-- `RES 1,D`: 45 R301. -/
def execRes1_D (s : State) : Out := bitReset .y1 (.reg .d) 8 s
/-- `RES 1,E`: 45 R301. -/
def execRes1_E (s : State) : Out := bitReset .y1 (.reg .e) 8 s
/-- `RES 1,H`: 45 R301. -/
def execRes1_H (s : State) : Out := bitReset .y1 (.reg .h) 8 s
/-- `RES 1,L`: 45 R301. -/
def execRes1_L (s : State) : Out := bitReset .y1 (.reg .l) 8 s
/-- `RES 1,(HL)`: 45 R301. -/
def execRes1_atHL (s : State) : Out := bitReset .y1 .atHL 15 s
/-- `RES 1,A`: 45 R301. -/
def execRes1_A (s : State) : Out := bitReset .y1 (.reg .a) 8 s
/-- `RES 2,B`: 45 R301. -/
def execRes2_B (s : State) : Out := bitReset .y2 (.reg .b) 8 s
/-- `RES 2,C`: 45 R301. -/
def execRes2_C (s : State) : Out := bitReset .y2 (.reg .c) 8 s
/-- `RES 2,D`: 45 R301. -/
def execRes2_D (s : State) : Out := bitReset .y2 (.reg .d) 8 s
/-- `RES 2,E`: 45 R301. -/
def execRes2_E (s : State) : Out := bitReset .y2 (.reg .e) 8 s
/-- `RES 2,H`: 45 R301. -/
def execRes2_H (s : State) : Out := bitReset .y2 (.reg .h) 8 s
/-- `RES 2,L`: 45 R301. -/
def execRes2_L (s : State) : Out := bitReset .y2 (.reg .l) 8 s
/-- `RES 2,(HL)`: 45 R301. -/
def execRes2_atHL (s : State) : Out := bitReset .y2 .atHL 15 s
/-- `RES 2,A`: 45 R301. -/
def execRes2_A (s : State) : Out := bitReset .y2 (.reg .a) 8 s
/-- `RES 3,B`: 45 R301. -/
def execRes3_B (s : State) : Out := bitReset .y3 (.reg .b) 8 s
/-- `RES 3,C`: 45 R301. -/
def execRes3_C (s : State) : Out := bitReset .y3 (.reg .c) 8 s
/-- `RES 3,D`: 45 R301. -/
def execRes3_D (s : State) : Out := bitReset .y3 (.reg .d) 8 s
/-- `RES 3,E`: 45 R301. -/
def execRes3_E (s : State) : Out := bitReset .y3 (.reg .e) 8 s
/-- `RES 3,H`: 45 R301. -/
def execRes3_H (s : State) : Out := bitReset .y3 (.reg .h) 8 s
/-- `RES 3,L`: 45 R301. -/
def execRes3_L (s : State) : Out := bitReset .y3 (.reg .l) 8 s
/-- `RES 3,(HL)`: 45 R301. -/
def execRes3_atHL (s : State) : Out := bitReset .y3 .atHL 15 s
/-- `RES 3,A`: 45 R301. -/
def execRes3_A (s : State) : Out := bitReset .y3 (.reg .a) 8 s
/-- `RES 4,B`: 45 R301. -/
def execRes4_B (s : State) : Out := bitReset .y4 (.reg .b) 8 s
/-- `RES 4,C`: 45 R301. -/
def execRes4_C (s : State) : Out := bitReset .y4 (.reg .c) 8 s
/-- `RES 4,D`: 45 R301. -/
def execRes4_D (s : State) : Out := bitReset .y4 (.reg .d) 8 s
/-- `RES 4,E`: 45 R301. -/
def execRes4_E (s : State) : Out := bitReset .y4 (.reg .e) 8 s
/-- `RES 4,H`: 45 R301. -/
def execRes4_H (s : State) : Out := bitReset .y4 (.reg .h) 8 s
/-- `RES 4,L`: 45 R301. -/
def execRes4_L (s : State) : Out := bitReset .y4 (.reg .l) 8 s
/-- `RES 4,(HL)`: 45 R301. -/
def execRes4_atHL (s : State) : Out := bitReset .y4 .atHL 15 s
/-- `RES 4,A`: 45 R301. -/
def execRes4_A (s : State) : Out := bitReset .y4 (.reg .a) 8 s
/-- `RES 5,B`: 45 R301. -/
def execRes5_B (s : State) : Out := bitReset .y5 (.reg .b) 8 s
/-- `RES 5,C`: 45 R301. -/
def execRes5_C (s : State) : Out := bitReset .y5 (.reg .c) 8 s
/-- `RES 5,D`: 45 R301. -/
def execRes5_D (s : State) : Out := bitReset .y5 (.reg .d) 8 s
/-- `RES 5,E`: 45 R301. -/
def execRes5_E (s : State) : Out := bitReset .y5 (.reg .e) 8 s
/-- `RES 5,H`: 45 R301. -/
def execRes5_H (s : State) : Out := bitReset .y5 (.reg .h) 8 s
/-- `RES 5,L`: 45 R301. -/
def execRes5_L (s : State) : Out := bitReset .y5 (.reg .l) 8 s
/-- `RES 5,(HL)`: 45 R301. -/
def execRes5_atHL (s : State) : Out := bitReset .y5 .atHL 15 s
/-- `RES 5,A`: 45 R301. -/
def execRes5_A (s : State) : Out := bitReset .y5 (.reg .a) 8 s
/-- `RES 6,B`: 45 R301. -/
def execRes6_B (s : State) : Out := bitReset .y6 (.reg .b) 8 s
/-- `RES 6,C`: 45 R301. -/
def execRes6_C (s : State) : Out := bitReset .y6 (.reg .c) 8 s
/-- `RES 6,D`: 45 R301. -/
def execRes6_D (s : State) : Out := bitReset .y6 (.reg .d) 8 s
/-- `RES 6,E`: 45 R301. -/
def execRes6_E (s : State) : Out := bitReset .y6 (.reg .e) 8 s
/-- `RES 6,H`: 45 R301. -/
def execRes6_H (s : State) : Out := bitReset .y6 (.reg .h) 8 s
/-- `RES 6,L`: 45 R301. -/
def execRes6_L (s : State) : Out := bitReset .y6 (.reg .l) 8 s
/-- `RES 6,(HL)`: 45 R301. -/
def execRes6_atHL (s : State) : Out := bitReset .y6 .atHL 15 s
/-- `RES 6,A`: 45 R301. -/
def execRes6_A (s : State) : Out := bitReset .y6 (.reg .a) 8 s
/-- `RES 7,B`: 45 R301. -/
def execRes7_B (s : State) : Out := bitReset .y7 (.reg .b) 8 s
/-- `RES 7,C`: 45 R301. -/
def execRes7_C (s : State) : Out := bitReset .y7 (.reg .c) 8 s
/-- `RES 7,D`: 45 R301. -/
def execRes7_D (s : State) : Out := bitReset .y7 (.reg .d) 8 s
/-- `RES 7,E`: 45 R301. -/
def execRes7_E (s : State) : Out := bitReset .y7 (.reg .e) 8 s
/-- `RES 7,H`: 45 R301. -/
def execRes7_H (s : State) : Out := bitReset .y7 (.reg .h) 8 s
/-- `RES 7,L`: 45 R301. -/
def execRes7_L (s : State) : Out := bitReset .y7 (.reg .l) 8 s
/-- `RES 7,(HL)`: 45 R301. -/
def execRes7_atHL (s : State) : Out := bitReset .y7 .atHL 15 s
/-- `RES 7,A`: 45 R301. -/
def execRes7_A (s : State) : Out := bitReset .y7 (.reg .a) 8 s
/-- `SET 0,B`: 45 R302. -/
def execSet0_B (s : State) : Out := bitSet .y0 (.reg .b) 8 s
/-- `SET 0,C`: 45 R302. -/
def execSet0_C (s : State) : Out := bitSet .y0 (.reg .c) 8 s
/-- `SET 0,D`: 45 R302. -/
def execSet0_D (s : State) : Out := bitSet .y0 (.reg .d) 8 s
/-- `SET 0,E`: 45 R302. -/
def execSet0_E (s : State) : Out := bitSet .y0 (.reg .e) 8 s
/-- `SET 0,H`: 45 R302. -/
def execSet0_H (s : State) : Out := bitSet .y0 (.reg .h) 8 s
/-- `SET 0,L`: 45 R302. -/
def execSet0_L (s : State) : Out := bitSet .y0 (.reg .l) 8 s
/-- `SET 0,(HL)`: 45 R302. -/
def execSet0_atHL (s : State) : Out := bitSet .y0 .atHL 15 s
/-- `SET 0,A`: 45 R302. -/
def execSet0_A (s : State) : Out := bitSet .y0 (.reg .a) 8 s
/-- `SET 1,B`: 45 R302. -/
def execSet1_B (s : State) : Out := bitSet .y1 (.reg .b) 8 s
/-- `SET 1,C`: 45 R302. -/
def execSet1_C (s : State) : Out := bitSet .y1 (.reg .c) 8 s
/-- `SET 1,D`: 45 R302. -/
def execSet1_D (s : State) : Out := bitSet .y1 (.reg .d) 8 s
/-- `SET 1,E`: 45 R302. -/
def execSet1_E (s : State) : Out := bitSet .y1 (.reg .e) 8 s
/-- `SET 1,H`: 45 R302. -/
def execSet1_H (s : State) : Out := bitSet .y1 (.reg .h) 8 s
/-- `SET 1,L`: 45 R302. -/
def execSet1_L (s : State) : Out := bitSet .y1 (.reg .l) 8 s
/-- `SET 1,(HL)`: 45 R302. -/
def execSet1_atHL (s : State) : Out := bitSet .y1 .atHL 15 s
/-- `SET 1,A`: 45 R302. -/
def execSet1_A (s : State) : Out := bitSet .y1 (.reg .a) 8 s
/-- `SET 2,B`: 45 R302. -/
def execSet2_B (s : State) : Out := bitSet .y2 (.reg .b) 8 s
/-- `SET 2,C`: 45 R302. -/
def execSet2_C (s : State) : Out := bitSet .y2 (.reg .c) 8 s
/-- `SET 2,D`: 45 R302. -/
def execSet2_D (s : State) : Out := bitSet .y2 (.reg .d) 8 s
/-- `SET 2,E`: 45 R302. -/
def execSet2_E (s : State) : Out := bitSet .y2 (.reg .e) 8 s
/-- `SET 2,H`: 45 R302. -/
def execSet2_H (s : State) : Out := bitSet .y2 (.reg .h) 8 s
/-- `SET 2,L`: 45 R302. -/
def execSet2_L (s : State) : Out := bitSet .y2 (.reg .l) 8 s
/-- `SET 2,(HL)`: 45 R302. -/
def execSet2_atHL (s : State) : Out := bitSet .y2 .atHL 15 s
/-- `SET 2,A`: 45 R302. -/
def execSet2_A (s : State) : Out := bitSet .y2 (.reg .a) 8 s
/-- `SET 3,B`: 45 R302. -/
def execSet3_B (s : State) : Out := bitSet .y3 (.reg .b) 8 s
/-- `SET 3,C`: 45 R302. -/
def execSet3_C (s : State) : Out := bitSet .y3 (.reg .c) 8 s
/-- `SET 3,D`: 45 R302. -/
def execSet3_D (s : State) : Out := bitSet .y3 (.reg .d) 8 s
/-- `SET 3,E`: 45 R302. -/
def execSet3_E (s : State) : Out := bitSet .y3 (.reg .e) 8 s
/-- `SET 3,H`: 45 R302. -/
def execSet3_H (s : State) : Out := bitSet .y3 (.reg .h) 8 s
/-- `SET 3,L`: 45 R302. -/
def execSet3_L (s : State) : Out := bitSet .y3 (.reg .l) 8 s
/-- `SET 3,(HL)`: 45 R302. -/
def execSet3_atHL (s : State) : Out := bitSet .y3 .atHL 15 s
/-- `SET 3,A`: 45 R302. -/
def execSet3_A (s : State) : Out := bitSet .y3 (.reg .a) 8 s
/-- `SET 4,B`: 45 R302. -/
def execSet4_B (s : State) : Out := bitSet .y4 (.reg .b) 8 s
/-- `SET 4,C`: 45 R302. -/
def execSet4_C (s : State) : Out := bitSet .y4 (.reg .c) 8 s
/-- `SET 4,D`: 45 R302. -/
def execSet4_D (s : State) : Out := bitSet .y4 (.reg .d) 8 s
/-- `SET 4,E`: 45 R302. -/
def execSet4_E (s : State) : Out := bitSet .y4 (.reg .e) 8 s
/-- `SET 4,H`: 45 R302. -/
def execSet4_H (s : State) : Out := bitSet .y4 (.reg .h) 8 s
/-- `SET 4,L`: 45 R302. -/
def execSet4_L (s : State) : Out := bitSet .y4 (.reg .l) 8 s
/-- `SET 4,(HL)`: 45 R302. -/
def execSet4_atHL (s : State) : Out := bitSet .y4 .atHL 15 s
/-- `SET 4,A`: 45 R302. -/
def execSet4_A (s : State) : Out := bitSet .y4 (.reg .a) 8 s
/-- `SET 5,B`: 45 R302. -/
def execSet5_B (s : State) : Out := bitSet .y5 (.reg .b) 8 s
/-- `SET 5,C`: 45 R302. -/
def execSet5_C (s : State) : Out := bitSet .y5 (.reg .c) 8 s
/-- `SET 5,D`: 45 R302. -/
def execSet5_D (s : State) : Out := bitSet .y5 (.reg .d) 8 s
/-- `SET 5,E`: 45 R302. -/
def execSet5_E (s : State) : Out := bitSet .y5 (.reg .e) 8 s
/-- `SET 5,H`: 45 R302. -/
def execSet5_H (s : State) : Out := bitSet .y5 (.reg .h) 8 s
/-- `SET 5,L`: 45 R302. -/
def execSet5_L (s : State) : Out := bitSet .y5 (.reg .l) 8 s
/-- `SET 5,(HL)`: 45 R302. -/
def execSet5_atHL (s : State) : Out := bitSet .y5 .atHL 15 s
/-- `SET 5,A`: 45 R302. -/
def execSet5_A (s : State) : Out := bitSet .y5 (.reg .a) 8 s
/-- `SET 6,B`: 45 R302. -/
def execSet6_B (s : State) : Out := bitSet .y6 (.reg .b) 8 s
/-- `SET 6,C`: 45 R302. -/
def execSet6_C (s : State) : Out := bitSet .y6 (.reg .c) 8 s
/-- `SET 6,D`: 45 R302. -/
def execSet6_D (s : State) : Out := bitSet .y6 (.reg .d) 8 s
/-- `SET 6,E`: 45 R302. -/
def execSet6_E (s : State) : Out := bitSet .y6 (.reg .e) 8 s
/-- `SET 6,H`: 45 R302. -/
def execSet6_H (s : State) : Out := bitSet .y6 (.reg .h) 8 s
/-- `SET 6,L`: 45 R302. -/
def execSet6_L (s : State) : Out := bitSet .y6 (.reg .l) 8 s
/-- `SET 6,(HL)`: 45 R302. -/
def execSet6_atHL (s : State) : Out := bitSet .y6 .atHL 15 s
/-- `SET 6,A`: 45 R302. -/
def execSet6_A (s : State) : Out := bitSet .y6 (.reg .a) 8 s
/-- `SET 7,B`: 45 R302. -/
def execSet7_B (s : State) : Out := bitSet .y7 (.reg .b) 8 s
/-- `SET 7,C`: 45 R302. -/
def execSet7_C (s : State) : Out := bitSet .y7 (.reg .c) 8 s
/-- `SET 7,D`: 45 R302. -/
def execSet7_D (s : State) : Out := bitSet .y7 (.reg .d) 8 s
/-- `SET 7,E`: 45 R302. -/
def execSet7_E (s : State) : Out := bitSet .y7 (.reg .e) 8 s
/-- `SET 7,H`: 45 R302. -/
def execSet7_H (s : State) : Out := bitSet .y7 (.reg .h) 8 s
/-- `SET 7,L`: 45 R302. -/
def execSet7_L (s : State) : Out := bitSet .y7 (.reg .l) 8 s
/-- `SET 7,(HL)`: 45 R302. -/
def execSet7_atHL (s : State) : Out := bitSet .y7 .atHL 15 s
/-- `SET 7,A`: 45 R302. -/
def execSet7_A (s : State) : Out := bitSet .y7 (.reg .a) 8 s
/-- `RLC (IX+d)`: 45 R290. -/
def execRlcIXd (d : Byte) (s : State) : Out := rot .rlc (.atIX d) 27 s
/-- `RRC (IX+d)`: 45 R291. -/
def execRrcIXd (d : Byte) (s : State) : Out := rot .rrc (.atIX d) 27 s
/-- `RL (IX+d)`: 45 R292. -/
def execRlIXd (d : Byte) (s : State) : Out := rot .rl (.atIX d) 27 s
/-- `RR (IX+d)`: 45 R293. -/
def execRrIXd (d : Byte) (s : State) : Out := rot .rr (.atIX d) 27 s
/-- `SLA (IX+d)`: 45 R294. -/
def execSlaIXd (d : Byte) (s : State) : Out := rot .sla (.atIX d) 27 s
/-- `SRA (IX+d)`: 45 R295. -/
def execSraIXd (d : Byte) (s : State) : Out := rot .sra (.atIX d) 27 s
/-- `SRL (IX+d)`: 45 R296. -/
def execSrlIXd (d : Byte) (s : State) : Out := rot .srl (.atIX d) 27 s
/-- `BIT 0,(IX+d)`: 45 R300. -/
def execBit0_IXd (d : Byte) (s : State) : Out := bitTest .y0 (.atIX d) 24 s
/-- `BIT 1,(IX+d)`: 45 R300. -/
def execBit1_IXd (d : Byte) (s : State) : Out := bitTest .y1 (.atIX d) 24 s
/-- `BIT 2,(IX+d)`: 45 R300. -/
def execBit2_IXd (d : Byte) (s : State) : Out := bitTest .y2 (.atIX d) 24 s
/-- `BIT 3,(IX+d)`: 45 R300. -/
def execBit3_IXd (d : Byte) (s : State) : Out := bitTest .y3 (.atIX d) 24 s
/-- `BIT 4,(IX+d)`: 45 R300. -/
def execBit4_IXd (d : Byte) (s : State) : Out := bitTest .y4 (.atIX d) 24 s
/-- `BIT 5,(IX+d)`: 45 R300. -/
def execBit5_IXd (d : Byte) (s : State) : Out := bitTest .y5 (.atIX d) 24 s
/-- `BIT 6,(IX+d)`: 45 R300. -/
def execBit6_IXd (d : Byte) (s : State) : Out := bitTest .y6 (.atIX d) 24 s
/-- `BIT 7,(IX+d)`: 45 R300. -/
def execBit7_IXd (d : Byte) (s : State) : Out := bitTest .y7 (.atIX d) 24 s
/-- `RES 0,(IX+d)`: 45 R301. -/
def execRes0_IXd (d : Byte) (s : State) : Out := bitReset .y0 (.atIX d) 27 s
/-- `RES 1,(IX+d)`: 45 R301. -/
def execRes1_IXd (d : Byte) (s : State) : Out := bitReset .y1 (.atIX d) 27 s
/-- `RES 2,(IX+d)`: 45 R301. -/
def execRes2_IXd (d : Byte) (s : State) : Out := bitReset .y2 (.atIX d) 27 s
/-- `RES 3,(IX+d)`: 45 R301. -/
def execRes3_IXd (d : Byte) (s : State) : Out := bitReset .y3 (.atIX d) 27 s
/-- `RES 4,(IX+d)`: 45 R301. -/
def execRes4_IXd (d : Byte) (s : State) : Out := bitReset .y4 (.atIX d) 27 s
/-- `RES 5,(IX+d)`: 45 R301. -/
def execRes5_IXd (d : Byte) (s : State) : Out := bitReset .y5 (.atIX d) 27 s
/-- `RES 6,(IX+d)`: 45 R301. -/
def execRes6_IXd (d : Byte) (s : State) : Out := bitReset .y6 (.atIX d) 27 s
/-- `RES 7,(IX+d)`: 45 R301. -/
def execRes7_IXd (d : Byte) (s : State) : Out := bitReset .y7 (.atIX d) 27 s
/-- `SET 0,(IX+d)`: 45 R302. -/
def execSet0_IXd (d : Byte) (s : State) : Out := bitSet .y0 (.atIX d) 27 s
/-- `SET 1,(IX+d)`: 45 R302. -/
def execSet1_IXd (d : Byte) (s : State) : Out := bitSet .y1 (.atIX d) 27 s
/-- `SET 2,(IX+d)`: 45 R302. -/
def execSet2_IXd (d : Byte) (s : State) : Out := bitSet .y2 (.atIX d) 27 s
/-- `SET 3,(IX+d)`: 45 R302. -/
def execSet3_IXd (d : Byte) (s : State) : Out := bitSet .y3 (.atIX d) 27 s
/-- `SET 4,(IX+d)`: 45 R302. -/
def execSet4_IXd (d : Byte) (s : State) : Out := bitSet .y4 (.atIX d) 27 s
/-- `SET 5,(IX+d)`: 45 R302. -/
def execSet5_IXd (d : Byte) (s : State) : Out := bitSet .y5 (.atIX d) 27 s
/-- `SET 6,(IX+d)`: 45 R302. -/
def execSet6_IXd (d : Byte) (s : State) : Out := bitSet .y6 (.atIX d) 27 s
/-- `SET 7,(IX+d)`: 45 R302. -/
def execSet7_IXd (d : Byte) (s : State) : Out := bitSet .y7 (.atIX d) 27 s

end Sys2Proof.Machine
end

