-- ==== Sys2Proof/Machine/Control.lean ====
section
/-! DEFINITION. Control transfer (46). First the operations, with the cost as the last number, or the costs not taken and
taken; then the meaning of each instruction. A meaning starts with `PC` past the instruction's last byte, so targets
and return addresses are computed from that value. No rule here changes a flag. -/

namespace Sys2Proof.Machine

/-- 46 R310: `JP nn`. -/
def jump (nn : Word) (cost : Nat) (s : State) : Out :=
  .next (((s.writeLatch nn).writePC nn).addCycles cost)

/-- 46 R311: `JP cc,nn`. `LATCH` is written taken or not. -/
def jumpCond (cc : Cond) (nn : Word) (cost : Nat) (s : State) : Out :=
  let s1 := s.writeLatch nn
  .next ((if condHolds s.readF cc then s1.writePC nn else s1).addCycles cost)

/-- 46 R312: `JP (HL)`, `JP (IX)`. No memory is read. -/
def jumpReg (x : HLX) (cost : Nat) (s : State) : Out :=
  .next ((s.writePC (s.read16 (hlxReg x))).addCycles cost)

/-- The jump of 46 R314 to R316: the target goes to `LATCH` and to `PC`. -/
def State.relativeJump (s : State) (d : Byte) : State :=
  (s.writeLatch (s.pc + signExt d)).writePC (s.pc + signExt d)

/-- 46 R314: `JR d`. -/
def jumpRel (d : Byte) (cost : Nat) (s : State) : Out := .next ((s.relativeJump d).addCycles cost)

/-- 46 R315: `JR cc,d`. -/
def jumpRelCond (cc : RelCond) (d : Byte) (notTaken taken : Nat) (s : State) : Out :=
  if condHolds s.readF (relCond cc) then .next ((s.relativeJump d).addCycles taken)
  else .next (s.addCycles notTaken)

/-- 46 R316: `DJNZ d`. -/
def decJump (d : Byte) (notTaken taken : Nat) (s : State) : Out :=
  let b := s.read8 .b + 0xFF
  let s1 := s.write8 .b b
  if b ≠ 0 then .next ((s1.relativeJump d).addCycles taken) else .next (s1.addCycles notTaken)

/-- 46 R320, R330: the return address is pushed, then `PC` takes the target. -/
def pushAndGo (t : Word) (s : State) : Res Unit :=
  (push16 s.pc s).bind fun _ s1 => .ok () (s1.writePC t)

/-- 46 R320: `CALL nn`. -/
def callTo (nn : Word) (cost : Nat) (s : State) : Out := (pushAndGo nn (s.writeLatch nn)).finish cost

/-- 46 R321: `CALL cc,nn`. -/
def callCond (cc : Cond) (nn : Word) (notTaken taken : Nat) (s : State) : Out :=
  if condHolds s.readF cc then (pushAndGo nn (s.writeLatch nn)).finish taken
  else .next ((s.writeLatch nn).addCycles notTaken)

/-- 46 R324: `RET`. -/
def ret (cost : Nat) (s : State) : Out := (returnPC s).finish cost

/-- 46 R325: `RET cc`. -/
def retCond (cc : Cond) (notTaken taken : Nat) (s : State) : Out :=
  if condHolds s.readF cc then (returnPC s).finish taken else .next (s.addCycles notTaken)

/-- 46 R330: the target of `RST`, `y*8`. -/
def restartTarget (y : Oct) : Word := BitVec.ofNat 16 (y.toNat * 8)

/-- 46 R330: `RST t`. -/
def restart (y : Oct) (cost : Nat) (s : State) : Out := (pushAndGo (restartTarget y) s).finish cost

/-- `DJNZ d`: 46 R316. -/
def execDjnz (d : Byte) (s : State) : Out := decJump d 8 13 s
/-- `JR d`: 46 R314. -/
def execJr (d : Byte) (s : State) : Out := jumpRel d 12 s
/-- `JR NZ,d`: 46 R315. -/
def execJrNZ (d : Byte) (s : State) : Out := jumpRelCond .nz d 7 12 s
/-- `JR Z,d`: 46 R315. -/
def execJrZ (d : Byte) (s : State) : Out := jumpRelCond .z d 7 12 s
/-- `JR NC,d`: 46 R315. -/
def execJrNC (d : Byte) (s : State) : Out := jumpRelCond .nc d 7 12 s
/-- `JR C,d`: 46 R315. -/
def execJrC (d : Byte) (s : State) : Out := jumpRelCond .c d 7 12 s
/-- `RET NZ`: 46 R325. -/
def execRetNZ (s : State) : Out := retCond .nz 5 11 s
/-- `JP NZ,nn`: 46 R311. -/
def execJpNZ (nn : Word) (s : State) : Out := jumpCond .nz nn 10 s
/-- `JP nn`: 46 R310. -/
def execJp (nn : Word) (s : State) : Out := jump nn 10 s
/-- `CALL NZ,nn`: 46 R321. -/
def execCallNZ (nn : Word) (s : State) : Out := callCond .nz nn 10 17 s
/-- `RST 0x00`: 46 R330. -/
def execRst00 (s : State) : Out := restart .y0 11 s
/-- `RET Z`: 46 R325. -/
def execRetZ (s : State) : Out := retCond .z 5 11 s
/-- `RET`: 46 R324. -/
def execRet (s : State) : Out := ret 10 s
/-- `JP Z,nn`: 46 R311. -/
def execJpZ (nn : Word) (s : State) : Out := jumpCond .z nn 10 s
/-- `CALL Z,nn`: 46 R321. -/
def execCallZ (nn : Word) (s : State) : Out := callCond .z nn 10 17 s
/-- `CALL nn`: 46 R320. -/
def execCall (nn : Word) (s : State) : Out := callTo nn 17 s
/-- `RST 0x08`: 46 R330. -/
def execRst08 (s : State) : Out := restart .y1 11 s
/-- `RET NC`: 46 R325. -/
def execRetNC (s : State) : Out := retCond .nc 5 11 s
/-- `JP NC,nn`: 46 R311. -/
def execJpNC (nn : Word) (s : State) : Out := jumpCond .nc nn 10 s
/-- `CALL NC,nn`: 46 R321. -/
def execCallNC (nn : Word) (s : State) : Out := callCond .nc nn 10 17 s
/-- `RST 0x10`: 46 R330. -/
def execRst10 (s : State) : Out := restart .y2 11 s
/-- `RET C`: 46 R325. -/
def execRetC (s : State) : Out := retCond .c 5 11 s
/-- `JP C,nn`: 46 R311. -/
def execJpC (nn : Word) (s : State) : Out := jumpCond .c nn 10 s
/-- `CALL C,nn`: 46 R321. -/
def execCallC (nn : Word) (s : State) : Out := callCond .c nn 10 17 s
/-- `RST 0x18`: 46 R330. -/
def execRst18 (s : State) : Out := restart .y3 11 s
/-- `RET PO`: 46 R325. -/
def execRetPO (s : State) : Out := retCond .po 5 11 s
/-- `JP PO,nn`: 46 R311. -/
def execJpPO (nn : Word) (s : State) : Out := jumpCond .po nn 10 s
/-- `CALL PO,nn`: 46 R321. -/
def execCallPO (nn : Word) (s : State) : Out := callCond .po nn 10 17 s
/-- `RST 0x20`: 46 R330. -/
def execRst20 (s : State) : Out := restart .y4 11 s
/-- `RET PE`: 46 R325. -/
def execRetPE (s : State) : Out := retCond .pe 5 11 s
/-- `JP (HL)`: 46 R312. -/
def execJpHL (s : State) : Out := jumpReg .hl 4 s
/-- `JP PE,nn`: 46 R311. -/
def execJpPE (nn : Word) (s : State) : Out := jumpCond .pe nn 10 s
/-- `CALL PE,nn`: 46 R321. -/
def execCallPE (nn : Word) (s : State) : Out := callCond .pe nn 10 17 s
/-- `RST 0x28`: 46 R330. -/
def execRst28 (s : State) : Out := restart .y5 11 s
/-- `RET P`: 46 R325. -/
def execRetP (s : State) : Out := retCond .p 5 11 s
/-- `JP P,nn`: 46 R311. -/
def execJpP (nn : Word) (s : State) : Out := jumpCond .p nn 10 s
/-- `CALL P,nn`: 46 R321. -/
def execCallP (nn : Word) (s : State) : Out := callCond .p nn 10 17 s
/-- `RST 0x30`: 46 R330. -/
def execRst30 (s : State) : Out := restart .y6 11 s
/-- `RET M`: 46 R325. -/
def execRetM (s : State) : Out := retCond .m 5 11 s
/-- `JP M,nn`: 46 R311. -/
def execJpM (nn : Word) (s : State) : Out := jumpCond .m nn 10 s
/-- `CALL M,nn`: 46 R321. -/
def execCallM (nn : Word) (s : State) : Out := callCond .m nn 10 17 s
/-- `RST 0x38`: 46 R330. -/
def execRst38 (s : State) : Out := restart .y7 11 s
/-- `JP (IX)`: 46 R312. -/
def execJpIX (s : State) : Out := jumpReg .ix 8 s

end Sys2Proof.Machine
end

