-- ==== Sys2Proof/Machine/LoadStore.lean ====
section
/-! DEFINITION. Loads, stores, the stack, the exchanges and I/O (42). First the operations, each once for all operand
forms, with the cost of the form as its last number; then the meaning of each instruction. A meaning starts with `PC`
past the instruction's last byte (41 R186, R187). No instruction here changes a flag, but for `POP AF` and
`EX AF,AF'`. -/

namespace Sys2Proof.Machine

/-- 42 R210, R211: `LD r,r'`, `LD r,(HL)`, `LD r,(IX+d)`. -/
def load8 (dst : Reg8) (src : Loc) (cost : Nat) (s : State) : Out :=
  ((readLoc src s).bind fun v s1 => .ok () (s1.write8 dst v)).finish cost

/-- 42 R211: `LD (HL),r`, `LD (IX+d),r`. -/
def store8 (dst : Loc) (src : Reg8) (cost : Nat) (s : State) : Out :=
  (writeLoc dst (s.read8 src) s).finish cost

/-- 42 R212: `LD r,n`, `LD (HL),n`, `LD (IX+d),n`. -/
def loadImm (dst : Loc) (n : Byte) (cost : Nat) (s : State) : Out :=
  (writeLoc dst n s).finish cost

/-- 42 R215: `LD A,(BC)`, `LD A,(DE)`. -/
def loadAPair (p : Reg16) (cost : Nat) (s : State) : Out :=
  ((memRead (s.read16 p) .data s).bind fun v s1 => .ok () (s1.writeA v)).finish cost

/-- 42 R216: `LD (BC),A`, `LD (DE),A`. -/
def storeAPair (p : Reg16) (cost : Nat) (s : State) : Out :=
  (memWrite (s.read16 p) s.readA .data s).finish cost

/-- 42 R217: `LD A,(nn)`. -/
def loadAMem (nn : Word) (cost : Nat) (s : State) : Out :=
  ((memRead nn .data (s.writeLatch nn)).bind fun v s1 => .ok () (s1.writeA v)).finish cost

/-- 42 R218: `LD (nn),A`. -/
def storeAMem (nn : Word) (cost : Nat) (s : State) : Out :=
  (memWrite nn s.readA .data (s.writeLatch nn)).finish cost

/-- 42 R220: `LD rp,nn`, `LD IX,nn`. `nn` is a value: `LATCH` is not written. -/
def loadPair (r : Reg16) (nn : Word) (cost : Nat) (s : State) : Out :=
  .next ((s.write16 r nn).addCycles cost)

/-- 42 R221: `LD HL,(nn)`, `LD IX,(nn)`. -/
def loadMem16 (x : HLX) (nn : Word) (cost : Nat) (s : State) : Out :=
  ((memRead16 nn .data (s.writeLatch nn)).bind fun w s1 => .ok () (s1.write16 (hlxReg x) w)).finish cost

/-- 42 R222: `LD (nn),HL`, `LD (nn),IX`. -/
def storeMem16 (x : HLX) (nn : Word) (cost : Nat) (s : State) : Out :=
  (memWrite16 nn (s.read16 (hlxReg x)) .data (s.writeLatch nn)).finish cost

/-- 42 R224: `LD SP,HL`, `LD SP,IX`. -/
def loadSP (x : HLX) (cost : Nat) (s : State) : Out :=
  .next ((s.writeSP (s.read16 (hlxReg x))).addCycles cost)

/-- 42 R230: `PUSH rp2`, `PUSH IX`. -/
def pushReg (r : StackReg) (cost : Nat) (s : State) : Out :=
  (push16 (s.readStackReg r) s).finish cost

/-- 42 R231: `POP rp2`, `POP IX`. -/
def popReg (r : StackReg) (cost : Nat) (s : State) : Out :=
  ((pop16 s).bind fun w s1 => .ok () (s1.writeStackReg r w)).finish cost

/-- 42 R236: `EX AF,AF'`. -/
def exchangeAF (cost : Nat) (s : State) : Out := .next (s.exchangeAF.addCycles cost)

/-- 42 R237: `EXX`. -/
def exchangeBank (cost : Nat) (s : State) : Out := .next (s.exchangeBank.addCycles cost)

/-- 42 R240: `IN A,(n)`. -/
def inPort (n : Byte) (cost : Nat) (s : State) : Out :=
  ((ioRead n s).bind fun v s1 => .ok () (s1.writeA v)).finish cost

/-- 42 R241: `OUT (n),A`. -/
def outPort (n : Byte) (cost : Nat) (s : State) : Out := (ioWrite n s.readA s).finish cost

/-- `LD BC,nn`: 42 R220. -/
def execLdBC_nn (nn : Word) (s : State) : Out := loadPair .bc nn 10 s
/-- `LD (BC),A`: 42 R216. -/
def execLdAtBC_A (s : State) : Out := storeAPair .bc 7 s
/-- `LD B,n`: 42 R212. -/
def execLdB_n (n : Byte) (s : State) : Out := loadImm (.reg .b) n 7 s
/-- `EX AF,AF'`: 42 R236. -/
def execExAF (s : State) : Out := exchangeAF 4 s
/-- `LD A,(BC)`: 42 R215. -/
def execLdA_atBC (s : State) : Out := loadAPair .bc 7 s
/-- `LD C,n`: 42 R212. -/
def execLdC_n (n : Byte) (s : State) : Out := loadImm (.reg .c) n 7 s
/-- `LD DE,nn`: 42 R220. -/
def execLdDE_nn (nn : Word) (s : State) : Out := loadPair .de nn 10 s
/-- `LD (DE),A`: 42 R216. -/
def execLdAtDE_A (s : State) : Out := storeAPair .de 7 s
/-- `LD D,n`: 42 R212. -/
def execLdD_n (n : Byte) (s : State) : Out := loadImm (.reg .d) n 7 s
/-- `LD A,(DE)`: 42 R215. -/
def execLdA_atDE (s : State) : Out := loadAPair .de 7 s
/-- `LD E,n`: 42 R212. -/
def execLdE_n (n : Byte) (s : State) : Out := loadImm (.reg .e) n 7 s
/-- `LD HL,nn`: 42 R220. -/
def execLdHL_nn (nn : Word) (s : State) : Out := loadPair .hl nn 10 s
/-- `LD (nn),HL`: 42 R222. -/
def execLdMem_HL (nn : Word) (s : State) : Out := storeMem16 .hl nn 16 s
/-- `LD H,n`: 42 R212. -/
def execLdH_n (n : Byte) (s : State) : Out := loadImm (.reg .h) n 7 s
/-- `LD HL,(nn)`: 42 R221. -/
def execLdHL_mem (nn : Word) (s : State) : Out := loadMem16 .hl nn 16 s
/-- `LD L,n`: 42 R212. -/
def execLdL_n (n : Byte) (s : State) : Out := loadImm (.reg .l) n 7 s
/-- `LD SP,nn`: 42 R220. -/
def execLdSP_nn (nn : Word) (s : State) : Out := loadPair .sp nn 10 s
/-- `LD (nn),A`: 42 R218. -/
def execLdMem_A (nn : Word) (s : State) : Out := storeAMem nn 13 s
/-- `LD (HL),n`: 42 R212. -/
def execLdAtHL_n (n : Byte) (s : State) : Out := loadImm .atHL n 10 s
/-- `LD A,(nn)`: 42 R217. -/
def execLdA_mem (nn : Word) (s : State) : Out := loadAMem nn 13 s
/-- `LD A,n`: 42 R212. -/
def execLdA_n (n : Byte) (s : State) : Out := loadImm (.reg .a) n 7 s
/-- `LD B,B`: 42 R210. -/
def execLdB_B (s : State) : Out := load8 .b (.reg .b) 4 s
/-- `LD B,C`: 42 R210. -/
def execLdB_C (s : State) : Out := load8 .b (.reg .c) 4 s
/-- `LD B,D`: 42 R210. -/
def execLdB_D (s : State) : Out := load8 .b (.reg .d) 4 s
/-- `LD B,E`: 42 R210. -/
def execLdB_E (s : State) : Out := load8 .b (.reg .e) 4 s
/-- `LD B,H`: 42 R210. -/
def execLdB_H (s : State) : Out := load8 .b (.reg .h) 4 s
/-- `LD B,L`: 42 R210. -/
def execLdB_L (s : State) : Out := load8 .b (.reg .l) 4 s
/-- `LD B,(HL)`: 42 R211. -/
def execLdB_atHL (s : State) : Out := load8 .b .atHL 7 s
/-- `LD B,A`: 42 R210. -/
def execLdB_A (s : State) : Out := load8 .b (.reg .a) 4 s
/-- `LD C,B`: 42 R210. -/
def execLdC_B (s : State) : Out := load8 .c (.reg .b) 4 s
/-- `LD C,C`: 42 R210. -/
def execLdC_C (s : State) : Out := load8 .c (.reg .c) 4 s
/-- `LD C,D`: 42 R210. -/
def execLdC_D (s : State) : Out := load8 .c (.reg .d) 4 s
/-- `LD C,E`: 42 R210. -/
def execLdC_E (s : State) : Out := load8 .c (.reg .e) 4 s
/-- `LD C,H`: 42 R210. -/
def execLdC_H (s : State) : Out := load8 .c (.reg .h) 4 s
/-- `LD C,L`: 42 R210. -/
def execLdC_L (s : State) : Out := load8 .c (.reg .l) 4 s
/-- `LD C,(HL)`: 42 R211. -/
def execLdC_atHL (s : State) : Out := load8 .c .atHL 7 s
/-- `LD C,A`: 42 R210. -/
def execLdC_A (s : State) : Out := load8 .c (.reg .a) 4 s
/-- `LD D,B`: 42 R210. -/
def execLdD_B (s : State) : Out := load8 .d (.reg .b) 4 s
/-- `LD D,C`: 42 R210. -/
def execLdD_C (s : State) : Out := load8 .d (.reg .c) 4 s
/-- `LD D,D`: 42 R210. -/
def execLdD_D (s : State) : Out := load8 .d (.reg .d) 4 s
/-- `LD D,E`: 42 R210. -/
def execLdD_E (s : State) : Out := load8 .d (.reg .e) 4 s
/-- `LD D,H`: 42 R210. -/
def execLdD_H (s : State) : Out := load8 .d (.reg .h) 4 s
/-- `LD D,L`: 42 R210. -/
def execLdD_L (s : State) : Out := load8 .d (.reg .l) 4 s
/-- `LD D,(HL)`: 42 R211. -/
def execLdD_atHL (s : State) : Out := load8 .d .atHL 7 s
/-- `LD D,A`: 42 R210. -/
def execLdD_A (s : State) : Out := load8 .d (.reg .a) 4 s
/-- `LD E,B`: 42 R210. -/
def execLdE_B (s : State) : Out := load8 .e (.reg .b) 4 s
/-- `LD E,C`: 42 R210. -/
def execLdE_C (s : State) : Out := load8 .e (.reg .c) 4 s
/-- `LD E,D`: 42 R210. -/
def execLdE_D (s : State) : Out := load8 .e (.reg .d) 4 s
/-- `LD E,E`: 42 R210. -/
def execLdE_E (s : State) : Out := load8 .e (.reg .e) 4 s
/-- `LD E,H`: 42 R210. -/
def execLdE_H (s : State) : Out := load8 .e (.reg .h) 4 s
/-- `LD E,L`: 42 R210. -/
def execLdE_L (s : State) : Out := load8 .e (.reg .l) 4 s
/-- `LD E,(HL)`: 42 R211. -/
def execLdE_atHL (s : State) : Out := load8 .e .atHL 7 s
/-- `LD E,A`: 42 R210. -/
def execLdE_A (s : State) : Out := load8 .e (.reg .a) 4 s
/-- `LD H,B`: 42 R210. -/
def execLdH_B (s : State) : Out := load8 .h (.reg .b) 4 s
/-- `LD H,C`: 42 R210. -/
def execLdH_C (s : State) : Out := load8 .h (.reg .c) 4 s
/-- `LD H,D`: 42 R210. -/
def execLdH_D (s : State) : Out := load8 .h (.reg .d) 4 s
/-- `LD H,E`: 42 R210. -/
def execLdH_E (s : State) : Out := load8 .h (.reg .e) 4 s
/-- `LD H,H`: 42 R210. -/
def execLdH_H (s : State) : Out := load8 .h (.reg .h) 4 s
/-- `LD H,L`: 42 R210. -/
def execLdH_L (s : State) : Out := load8 .h (.reg .l) 4 s
/-- `LD H,(HL)`: 42 R211. -/
def execLdH_atHL (s : State) : Out := load8 .h .atHL 7 s
/-- `LD H,A`: 42 R210. -/
def execLdH_A (s : State) : Out := load8 .h (.reg .a) 4 s
/-- `LD L,B`: 42 R210. -/
def execLdL_B (s : State) : Out := load8 .l (.reg .b) 4 s
/-- `LD L,C`: 42 R210. -/
def execLdL_C (s : State) : Out := load8 .l (.reg .c) 4 s
/-- `LD L,D`: 42 R210. -/
def execLdL_D (s : State) : Out := load8 .l (.reg .d) 4 s
/-- `LD L,E`: 42 R210. -/
def execLdL_E (s : State) : Out := load8 .l (.reg .e) 4 s
/-- `LD L,H`: 42 R210. -/
def execLdL_H (s : State) : Out := load8 .l (.reg .h) 4 s
/-- `LD L,L`: 42 R210. -/
def execLdL_L (s : State) : Out := load8 .l (.reg .l) 4 s
/-- `LD L,(HL)`: 42 R211. -/
def execLdL_atHL (s : State) : Out := load8 .l .atHL 7 s
/-- `LD L,A`: 42 R210. -/
def execLdL_A (s : State) : Out := load8 .l (.reg .a) 4 s
/-- `LD (HL),B`: 42 R211. -/
def execLdAtHL_B (s : State) : Out := store8 .atHL .b 7 s
/-- `LD (HL),C`: 42 R211. -/
def execLdAtHL_C (s : State) : Out := store8 .atHL .c 7 s
/-- `LD (HL),D`: 42 R211. -/
def execLdAtHL_D (s : State) : Out := store8 .atHL .d 7 s
/-- `LD (HL),E`: 42 R211. -/
def execLdAtHL_E (s : State) : Out := store8 .atHL .e 7 s
/-- `LD (HL),H`: 42 R211. -/
def execLdAtHL_H (s : State) : Out := store8 .atHL .h 7 s
/-- `LD (HL),L`: 42 R211. -/
def execLdAtHL_L (s : State) : Out := store8 .atHL .l 7 s
/-- `LD (HL),A`: 42 R211. -/
def execLdAtHL_A (s : State) : Out := store8 .atHL .a 7 s
/-- `LD A,B`: 42 R210. -/
def execLdA_B (s : State) : Out := load8 .a (.reg .b) 4 s
/-- `LD A,C`: 42 R210. -/
def execLdA_C (s : State) : Out := load8 .a (.reg .c) 4 s
/-- `LD A,D`: 42 R210. -/
def execLdA_D (s : State) : Out := load8 .a (.reg .d) 4 s
/-- `LD A,E`: 42 R210. -/
def execLdA_E (s : State) : Out := load8 .a (.reg .e) 4 s
/-- `LD A,H`: 42 R210. -/
def execLdA_H (s : State) : Out := load8 .a (.reg .h) 4 s
/-- `LD A,L`: 42 R210. -/
def execLdA_L (s : State) : Out := load8 .a (.reg .l) 4 s
/-- `LD A,(HL)`: 42 R211. -/
def execLdA_atHL (s : State) : Out := load8 .a .atHL 7 s
/-- `LD A,A`: 42 R210. -/
def execLdA_A (s : State) : Out := load8 .a (.reg .a) 4 s
/-- `POP BC`: 42 R231. -/
def execPopBC (s : State) : Out := popReg .bc 10 s
/-- `PUSH BC`: 42 R230. -/
def execPushBC (s : State) : Out := pushReg .bc 11 s
/-- `POP DE`: 42 R231. -/
def execPopDE (s : State) : Out := popReg .de 10 s
/-- `OUT (n),A`: 42 R241. -/
def execOutPort_A (n : Byte) (s : State) : Out := outPort n 11 s
/-- `PUSH DE`: 42 R230. -/
def execPushDE (s : State) : Out := pushReg .de 11 s
/-- `EXX`: 42 R237. -/
def execExx (s : State) : Out := exchangeBank 4 s
/-- `IN A,(n)`: 42 R240. -/
def execInA_port (n : Byte) (s : State) : Out := inPort n 11 s
/-- `POP HL`: 42 R231. -/
def execPopHL (s : State) : Out := popReg .hl 10 s
/-- `PUSH HL`: 42 R230. -/
def execPushHL (s : State) : Out := pushReg .hl 11 s
/-- `POP AF`: 42 R231. -/
def execPopAF (s : State) : Out := popReg .af 10 s
/-- `PUSH AF`: 42 R230. -/
def execPushAF (s : State) : Out := pushReg .af 11 s
/-- `LD SP,HL`: 42 R224. -/
def execLdSP_HL (s : State) : Out := loadSP .hl 6 s
/-- `LD IX,nn`: 42 R220. -/
def execLdIX_nn (nn : Word) (s : State) : Out := loadPair .ix nn 14 s
/-- `LD (nn),IX`: 42 R222. -/
def execLdMem_IX (nn : Word) (s : State) : Out := storeMem16 .ix nn 20 s
/-- `LD IX,(nn)`: 42 R221. -/
def execLdIX_mem (nn : Word) (s : State) : Out := loadMem16 .ix nn 20 s
/-- `LD (IX+d),n`: 42 R212. -/
def execLdIXd_n (d : Byte) (n : Byte) (s : State) : Out := loadImm (.atIX d) n 22 s
/-- `LD B,(IX+d)`: 42 R211. -/
def execLdB_IXd (d : Byte) (s : State) : Out := load8 .b (.atIX d) 19 s
/-- `LD C,(IX+d)`: 42 R211. -/
def execLdC_IXd (d : Byte) (s : State) : Out := load8 .c (.atIX d) 19 s
/-- `LD D,(IX+d)`: 42 R211. -/
def execLdD_IXd (d : Byte) (s : State) : Out := load8 .d (.atIX d) 19 s
/-- `LD E,(IX+d)`: 42 R211. -/
def execLdE_IXd (d : Byte) (s : State) : Out := load8 .e (.atIX d) 19 s
/-- `LD H,(IX+d)`: 42 R211. -/
def execLdH_IXd (d : Byte) (s : State) : Out := load8 .h (.atIX d) 19 s
/-- `LD L,(IX+d)`: 42 R211. -/
def execLdL_IXd (d : Byte) (s : State) : Out := load8 .l (.atIX d) 19 s
/-- `LD (IX+d),B`: 42 R211. -/
def execLdIXd_B (d : Byte) (s : State) : Out := store8 (.atIX d) .b 19 s
/-- `LD (IX+d),C`: 42 R211. -/
def execLdIXd_C (d : Byte) (s : State) : Out := store8 (.atIX d) .c 19 s
/-- `LD (IX+d),D`: 42 R211. -/
def execLdIXd_D (d : Byte) (s : State) : Out := store8 (.atIX d) .d 19 s
/-- `LD (IX+d),E`: 42 R211. -/
def execLdIXd_E (d : Byte) (s : State) : Out := store8 (.atIX d) .e 19 s
/-- `LD (IX+d),H`: 42 R211. -/
def execLdIXd_H (d : Byte) (s : State) : Out := store8 (.atIX d) .h 19 s
/-- `LD (IX+d),L`: 42 R211. -/
def execLdIXd_L (d : Byte) (s : State) : Out := store8 (.atIX d) .l 19 s
/-- `LD (IX+d),A`: 42 R211. -/
def execLdIXd_A (d : Byte) (s : State) : Out := store8 (.atIX d) .a 19 s
/-- `LD A,(IX+d)`: 42 R211. -/
def execLdA_IXd (d : Byte) (s : State) : Out := load8 .a (.atIX d) 19 s
/-- `POP IX`: 42 R231. -/
def execPopIX (s : State) : Out := popReg .ix 14 s
/-- `PUSH IX`: 42 R230. -/
def execPushIX (s : State) : Out := pushReg .ix 15 s
/-- `LD SP,IX`: 42 R224. -/
def execLdSP_IX (s : State) : Out := loadSP .ix 10 s

end Sys2Proof.Machine
end

