-- ==== Sys2Proof/Machine/System.lean ====
section
/-! DEFINITION. System instructions and the prefix bytes (47; 30 R121, R122; 41 R185). First the operations, then the
meaning of each instruction. There is one mode: every instruction here may be executed at any time (60 R395). -/

namespace Sys2Proof.Machine

/-- 47 R340: `NOP`. -/
def noOperation (cost : Nat) (s : State) : Out := .next (s.addCycles cost)

/-- 47 R342: `HALT`. `PC` goes back to the address of the `HALT` byte. -/
def enterHalt (cost : Nat) (s : State) : Out :=
  .next (((s.writePC (s.pc + 0xFFFF)).writeHalted true).addCycles cost)

/-- 47 R344, R345: `DI`, `EI`, with effect at once. -/
def setEnable (b : Bool) (cost : Nat) (s : State) : Out := .next ((s.writeIFF b).addCycles cost)

/-- 47 R346: `IM m`. -/
def setMode (m : IntMode) (cost : Nat) (s : State) : Out := .next ((s.writeIM m).addCycles cost)

/-- 47 R347: `LD I,A`. -/
def loadI (cost : Nat) (s : State) : Out := .next ((s.writeI s.readA).addCycles cost)

/-- 47 R348: `RETI`, a return that also enables. -/
def returnEnable (cost : Nat) (s : State) : Out :=
  ((returnPC s).bind fun _ s1 => .ok () (s1.writeIFF true)).finish cost

/-- 30 R121, 41 R185: the engine's act on the byte 0xDD. With no prefix active it sets the prefix state to `IX`. While
the index prefix is active the byte has no arm: `DecodeFailure`, with the two bytes fetched (log entry 12). -/
def takeIndexPrefix (s : State) : Out :=
  match s.pfx with
  | .none => .next (s.writePfx .index)
  | .bit => .next (s.writePfx .index)
  | .index => .fault (.decodeFailure { s with faulted := true, pfx := .none } (s.pc - 2) [0xDD, 0xDD])
  | .indexBit _ => .fault (.decodeFailure { s with faulted := true, pfx := .none } (s.pc - 2) [0xDD, 0xDD])

/-- 30 R122, 41 R185: the engine's act on the byte 0xCB. With no index prefix active it selects the bit table. With the
index prefix active it fetches the displacement, writes `LATCH`, and selects the index+bit table. -/
def takeBitPrefix (s : State) : Out :=
  match s.pfx with
  | .none => .next (s.writePfx .bit)
  | .bit => .next (s.writePfx .bit)
  | .index => ((fetchDisplacement s).bind fun d s1 => .ok () (s1.writePfx (.indexBit d))).finish 0
  | .indexBit _ => ((fetchDisplacement s).bind fun d s1 => .ok () (s1.writePfx (.indexBit d))).finish 0

/-- `NOP`: 47 R340. -/
def execNop (s : State) : Out := noOperation 4 s
/-- `HALT`: 47 R342. -/
def execHalt (s : State) : Out := enterHalt 4 s
/-- `IM 0`: 47 R346. -/
def execIm0 (s : State) : Out := setMode .im0 4 s
/-- the bit prefix 0xCB: 30 R122. -/
def execBitPrefix (s : State) : Out := takeBitPrefix s
/-- `IM 1`: 47 R346. -/
def execIm1 (s : State) : Out := setMode .im1 4 s
/-- `IM 2`: 47 R346. -/
def execIm2 (s : State) : Out := setMode .im2 4 s
/-- the index prefix 0xDD: 30 R121. -/
def execIndexPrefix (s : State) : Out := takeIndexPrefix s
/-- `LD I,A`: 47 R347. -/
def execLdI_A (s : State) : Out := loadI 4 s
/-- `RETI`: 47 R348. -/
def execReti (s : State) : Out := returnEnable 10 s
/-- `DI`: 47 R344. -/
def execDi (s : State) : Out := setEnable false 4 s
/-- `EI`: 47 R345. -/
def execEi (s : State) : Out := setEnable true 4 s

end Sys2Proof.Machine
end

