-- ==== Sys2Proof/Machine/Dispatch.lean ====
section
/-! DEFINITION. One arm per instruction: the call of its meaning (41 R191). -/

namespace Sys2Proof.Machine

def exec (i : Instr) (s : State) : Host.Outcome State Fault Refusal :=
  match i with
  | .ldBC_nn nn => Sys2Proof.Machine.execLdBC_nn nn s
  | .ldB_n n => Sys2Proof.Machine.execLdB_n n s
  | .ldC_n n => Sys2Proof.Machine.execLdC_n n s
  | .djnz d => Sys2Proof.Machine.execDjnz d s
  | .ldDE_nn nn => Sys2Proof.Machine.execLdDE_nn nn s
  | .ldD_n n => Sys2Proof.Machine.execLdD_n n s
  | .jr d => Sys2Proof.Machine.execJr d s
  | .ldE_n n => Sys2Proof.Machine.execLdE_n n s
  | .jrNZ d => Sys2Proof.Machine.execJrNZ d s
  | .ldHL_nn nn => Sys2Proof.Machine.execLdHL_nn nn s
  | .ldMem_HL nn => Sys2Proof.Machine.execLdMem_HL nn s
  | .ldH_n n => Sys2Proof.Machine.execLdH_n n s
  | .jrZ d => Sys2Proof.Machine.execJrZ d s
  | .ldHL_mem nn => Sys2Proof.Machine.execLdHL_mem nn s
  | .ldL_n n => Sys2Proof.Machine.execLdL_n n s
  | .jrNC d => Sys2Proof.Machine.execJrNC d s
  | .ldSP_nn nn => Sys2Proof.Machine.execLdSP_nn nn s
  | .ldMem_A nn => Sys2Proof.Machine.execLdMem_A nn s
  | .ldAtHL_n n => Sys2Proof.Machine.execLdAtHL_n n s
  | .jrC d => Sys2Proof.Machine.execJrC d s
  | .ldA_mem nn => Sys2Proof.Machine.execLdA_mem nn s
  | .ldA_n n => Sys2Proof.Machine.execLdA_n n s
  | .addA_n n => Sys2Proof.Machine.execAddA_n n s
  | .adcA_n n => Sys2Proof.Machine.execAdcA_n n s
  | .subA_n n => Sys2Proof.Machine.execSubA_n n s
  | .sbcA_n n => Sys2Proof.Machine.execSbcA_n n s
  | .andA_n n => Sys2Proof.Machine.execAndA_n n s
  | .xorA_n n => Sys2Proof.Machine.execXorA_n n s
  | .orA_n n => Sys2Proof.Machine.execOrA_n n s
  | .cpA_n n => Sys2Proof.Machine.execCpA_n n s
  | .jpNZ nn => Sys2Proof.Machine.execJpNZ nn s
  | .jp nn => Sys2Proof.Machine.execJp nn s
  | .callNZ nn => Sys2Proof.Machine.execCallNZ nn s
  | .jpZ nn => Sys2Proof.Machine.execJpZ nn s
  | .callZ nn => Sys2Proof.Machine.execCallZ nn s
  | .call nn => Sys2Proof.Machine.execCall nn s
  | .jpNC nn => Sys2Proof.Machine.execJpNC nn s
  | .outPort_A n => Sys2Proof.Machine.execOutPort_A n s
  | .callNC nn => Sys2Proof.Machine.execCallNC nn s
  | .jpC nn => Sys2Proof.Machine.execJpC nn s
  | .inA_port n => Sys2Proof.Machine.execInA_port n s
  | .callC nn => Sys2Proof.Machine.execCallC nn s
  | .jpPO nn => Sys2Proof.Machine.execJpPO nn s
  | .callPO nn => Sys2Proof.Machine.execCallPO nn s
  | .jpPE nn => Sys2Proof.Machine.execJpPE nn s
  | .callPE nn => Sys2Proof.Machine.execCallPE nn s
  | .jpP nn => Sys2Proof.Machine.execJpP nn s
  | .callP nn => Sys2Proof.Machine.execCallP nn s
  | .jpM nn => Sys2Proof.Machine.execJpM nn s
  | .callM nn => Sys2Proof.Machine.execCallM nn s
  | .ldIX_nn nn => Sys2Proof.Machine.execLdIX_nn nn s
  | .ldMem_IX nn => Sys2Proof.Machine.execLdMem_IX nn s
  | .ldIX_mem nn => Sys2Proof.Machine.execLdIX_mem nn s
  | .incIXd d => Sys2Proof.Machine.execIncIXd d s
  | .decIXd d => Sys2Proof.Machine.execDecIXd d s
  | .ldIXd_n d n => Sys2Proof.Machine.execLdIXd_n d n s
  | .ldB_IXd d => Sys2Proof.Machine.execLdB_IXd d s
  | .ldC_IXd d => Sys2Proof.Machine.execLdC_IXd d s
  | .ldD_IXd d => Sys2Proof.Machine.execLdD_IXd d s
  | .ldE_IXd d => Sys2Proof.Machine.execLdE_IXd d s
  | .ldH_IXd d => Sys2Proof.Machine.execLdH_IXd d s
  | .ldL_IXd d => Sys2Proof.Machine.execLdL_IXd d s
  | .ldIXd_B d => Sys2Proof.Machine.execLdIXd_B d s
  | .ldIXd_C d => Sys2Proof.Machine.execLdIXd_C d s
  | .ldIXd_D d => Sys2Proof.Machine.execLdIXd_D d s
  | .ldIXd_E d => Sys2Proof.Machine.execLdIXd_E d s
  | .ldIXd_H d => Sys2Proof.Machine.execLdIXd_H d s
  | .ldIXd_L d => Sys2Proof.Machine.execLdIXd_L d s
  | .ldIXd_A d => Sys2Proof.Machine.execLdIXd_A d s
  | .ldA_IXd d => Sys2Proof.Machine.execLdA_IXd d s
  | .addA_IXd d => Sys2Proof.Machine.execAddA_IXd d s
  | .adcA_IXd d => Sys2Proof.Machine.execAdcA_IXd d s
  | .subA_IXd d => Sys2Proof.Machine.execSubA_IXd d s
  | .sbcA_IXd d => Sys2Proof.Machine.execSbcA_IXd d s
  | .andA_IXd d => Sys2Proof.Machine.execAndA_IXd d s
  | .xorA_IXd d => Sys2Proof.Machine.execXorA_IXd d s
  | .orA_IXd d => Sys2Proof.Machine.execOrA_IXd d s
  | .cpA_IXd d => Sys2Proof.Machine.execCpA_IXd d s
  | .rlcIXd d => Sys2Proof.Machine.execRlcIXd d s
  | .rrcIXd d => Sys2Proof.Machine.execRrcIXd d s
  | .rlIXd d => Sys2Proof.Machine.execRlIXd d s
  | .rrIXd d => Sys2Proof.Machine.execRrIXd d s
  | .slaIXd d => Sys2Proof.Machine.execSlaIXd d s
  | .sraIXd d => Sys2Proof.Machine.execSraIXd d s
  | .srlIXd d => Sys2Proof.Machine.execSrlIXd d s
  | .bit0_IXd d => Sys2Proof.Machine.execBit0_IXd d s
  | .bit1_IXd d => Sys2Proof.Machine.execBit1_IXd d s
  | .bit2_IXd d => Sys2Proof.Machine.execBit2_IXd d s
  | .bit3_IXd d => Sys2Proof.Machine.execBit3_IXd d s
  | .bit4_IXd d => Sys2Proof.Machine.execBit4_IXd d s
  | .bit5_IXd d => Sys2Proof.Machine.execBit5_IXd d s
  | .bit6_IXd d => Sys2Proof.Machine.execBit6_IXd d s
  | .bit7_IXd d => Sys2Proof.Machine.execBit7_IXd d s
  | .res0_IXd d => Sys2Proof.Machine.execRes0_IXd d s
  | .res1_IXd d => Sys2Proof.Machine.execRes1_IXd d s
  | .res2_IXd d => Sys2Proof.Machine.execRes2_IXd d s
  | .res3_IXd d => Sys2Proof.Machine.execRes3_IXd d s
  | .res4_IXd d => Sys2Proof.Machine.execRes4_IXd d s
  | .res5_IXd d => Sys2Proof.Machine.execRes5_IXd d s
  | .res6_IXd d => Sys2Proof.Machine.execRes6_IXd d s
  | .res7_IXd d => Sys2Proof.Machine.execRes7_IXd d s
  | .set0_IXd d => Sys2Proof.Machine.execSet0_IXd d s
  | .set1_IXd d => Sys2Proof.Machine.execSet1_IXd d s
  | .set2_IXd d => Sys2Proof.Machine.execSet2_IXd d s
  | .set3_IXd d => Sys2Proof.Machine.execSet3_IXd d s
  | .set4_IXd d => Sys2Proof.Machine.execSet4_IXd d s
  | .set5_IXd d => Sys2Proof.Machine.execSet5_IXd d s
  | .set6_IXd d => Sys2Proof.Machine.execSet6_IXd d s
  | .set7_IXd d => Sys2Proof.Machine.execSet7_IXd d s
  | .nop => Sys2Proof.Machine.execNop s
  | .ldAtBC_A => Sys2Proof.Machine.execLdAtBC_A s
  | .incBC => Sys2Proof.Machine.execIncBC s
  | .incB => Sys2Proof.Machine.execIncB s
  | .decB => Sys2Proof.Machine.execDecB s
  | .exAF => Sys2Proof.Machine.execExAF s
  | .addHL_BC => Sys2Proof.Machine.execAddHL_BC s
  | .ldA_atBC => Sys2Proof.Machine.execLdA_atBC s
  | .decBC => Sys2Proof.Machine.execDecBC s
  | .incC => Sys2Proof.Machine.execIncC s
  | .decC => Sys2Proof.Machine.execDecC s
  | .ldAtDE_A => Sys2Proof.Machine.execLdAtDE_A s
  | .incDE => Sys2Proof.Machine.execIncDE s
  | .incD => Sys2Proof.Machine.execIncD s
  | .decD => Sys2Proof.Machine.execDecD s
  | .addHL_DE => Sys2Proof.Machine.execAddHL_DE s
  | .ldA_atDE => Sys2Proof.Machine.execLdA_atDE s
  | .decDE => Sys2Proof.Machine.execDecDE s
  | .incE => Sys2Proof.Machine.execIncE s
  | .decE => Sys2Proof.Machine.execDecE s
  | .incHL => Sys2Proof.Machine.execIncHL s
  | .incH => Sys2Proof.Machine.execIncH s
  | .decH => Sys2Proof.Machine.execDecH s
  | .addHL_HL => Sys2Proof.Machine.execAddHL_HL s
  | .decHL => Sys2Proof.Machine.execDecHL s
  | .incL => Sys2Proof.Machine.execIncL s
  | .decL => Sys2Proof.Machine.execDecL s
  | .cpl => Sys2Proof.Machine.execCpl s
  | .incSP => Sys2Proof.Machine.execIncSP s
  | .incAtHL => Sys2Proof.Machine.execIncAtHL s
  | .decAtHL => Sys2Proof.Machine.execDecAtHL s
  | .scf => Sys2Proof.Machine.execScf s
  | .addHL_SP => Sys2Proof.Machine.execAddHL_SP s
  | .decSP => Sys2Proof.Machine.execDecSP s
  | .incA => Sys2Proof.Machine.execIncA s
  | .decA => Sys2Proof.Machine.execDecA s
  | .ccf => Sys2Proof.Machine.execCcf s
  | .ldB_B => Sys2Proof.Machine.execLdB_B s
  | .ldB_C => Sys2Proof.Machine.execLdB_C s
  | .ldB_D => Sys2Proof.Machine.execLdB_D s
  | .ldB_E => Sys2Proof.Machine.execLdB_E s
  | .ldB_H => Sys2Proof.Machine.execLdB_H s
  | .ldB_L => Sys2Proof.Machine.execLdB_L s
  | .ldB_atHL => Sys2Proof.Machine.execLdB_atHL s
  | .ldB_A => Sys2Proof.Machine.execLdB_A s
  | .ldC_B => Sys2Proof.Machine.execLdC_B s
  | .ldC_C => Sys2Proof.Machine.execLdC_C s
  | .ldC_D => Sys2Proof.Machine.execLdC_D s
  | .ldC_E => Sys2Proof.Machine.execLdC_E s
  | .ldC_H => Sys2Proof.Machine.execLdC_H s
  | .ldC_L => Sys2Proof.Machine.execLdC_L s
  | .ldC_atHL => Sys2Proof.Machine.execLdC_atHL s
  | .ldC_A => Sys2Proof.Machine.execLdC_A s
  | .ldD_B => Sys2Proof.Machine.execLdD_B s
  | .ldD_C => Sys2Proof.Machine.execLdD_C s
  | .ldD_D => Sys2Proof.Machine.execLdD_D s
  | .ldD_E => Sys2Proof.Machine.execLdD_E s
  | .ldD_H => Sys2Proof.Machine.execLdD_H s
  | .ldD_L => Sys2Proof.Machine.execLdD_L s
  | .ldD_atHL => Sys2Proof.Machine.execLdD_atHL s
  | .ldD_A => Sys2Proof.Machine.execLdD_A s
  | .ldE_B => Sys2Proof.Machine.execLdE_B s
  | .ldE_C => Sys2Proof.Machine.execLdE_C s
  | .ldE_D => Sys2Proof.Machine.execLdE_D s
  | .ldE_E => Sys2Proof.Machine.execLdE_E s
  | .ldE_H => Sys2Proof.Machine.execLdE_H s
  | .ldE_L => Sys2Proof.Machine.execLdE_L s
  | .ldE_atHL => Sys2Proof.Machine.execLdE_atHL s
  | .ldE_A => Sys2Proof.Machine.execLdE_A s
  | .ldH_B => Sys2Proof.Machine.execLdH_B s
  | .ldH_C => Sys2Proof.Machine.execLdH_C s
  | .ldH_D => Sys2Proof.Machine.execLdH_D s
  | .ldH_E => Sys2Proof.Machine.execLdH_E s
  | .ldH_H => Sys2Proof.Machine.execLdH_H s
  | .ldH_L => Sys2Proof.Machine.execLdH_L s
  | .ldH_atHL => Sys2Proof.Machine.execLdH_atHL s
  | .ldH_A => Sys2Proof.Machine.execLdH_A s
  | .ldL_B => Sys2Proof.Machine.execLdL_B s
  | .ldL_C => Sys2Proof.Machine.execLdL_C s
  | .ldL_D => Sys2Proof.Machine.execLdL_D s
  | .ldL_E => Sys2Proof.Machine.execLdL_E s
  | .ldL_H => Sys2Proof.Machine.execLdL_H s
  | .ldL_L => Sys2Proof.Machine.execLdL_L s
  | .ldL_atHL => Sys2Proof.Machine.execLdL_atHL s
  | .ldL_A => Sys2Proof.Machine.execLdL_A s
  | .ldAtHL_B => Sys2Proof.Machine.execLdAtHL_B s
  | .ldAtHL_C => Sys2Proof.Machine.execLdAtHL_C s
  | .ldAtHL_D => Sys2Proof.Machine.execLdAtHL_D s
  | .ldAtHL_E => Sys2Proof.Machine.execLdAtHL_E s
  | .ldAtHL_H => Sys2Proof.Machine.execLdAtHL_H s
  | .ldAtHL_L => Sys2Proof.Machine.execLdAtHL_L s
  | .halt => Sys2Proof.Machine.execHalt s
  | .ldAtHL_A => Sys2Proof.Machine.execLdAtHL_A s
  | .ldA_B => Sys2Proof.Machine.execLdA_B s
  | .ldA_C => Sys2Proof.Machine.execLdA_C s
  | .ldA_D => Sys2Proof.Machine.execLdA_D s
  | .ldA_E => Sys2Proof.Machine.execLdA_E s
  | .ldA_H => Sys2Proof.Machine.execLdA_H s
  | .ldA_L => Sys2Proof.Machine.execLdA_L s
  | .ldA_atHL => Sys2Proof.Machine.execLdA_atHL s
  | .ldA_A => Sys2Proof.Machine.execLdA_A s
  | .addA_B => Sys2Proof.Machine.execAddA_B s
  | .addA_D => Sys2Proof.Machine.execAddA_D s
  | .addA_E => Sys2Proof.Machine.execAddA_E s
  | .addA_H => Sys2Proof.Machine.execAddA_H s
  | .addA_L => Sys2Proof.Machine.execAddA_L s
  | .addA_atHL => Sys2Proof.Machine.execAddA_atHL s
  | .addA_A => Sys2Proof.Machine.execAddA_A s
  | .adcA_B => Sys2Proof.Machine.execAdcA_B s
  | .adcA_D => Sys2Proof.Machine.execAdcA_D s
  | .adcA_E => Sys2Proof.Machine.execAdcA_E s
  | .adcA_H => Sys2Proof.Machine.execAdcA_H s
  | .adcA_L => Sys2Proof.Machine.execAdcA_L s
  | .adcA_atHL => Sys2Proof.Machine.execAdcA_atHL s
  | .adcA_A => Sys2Proof.Machine.execAdcA_A s
  | .subA_B => Sys2Proof.Machine.execSubA_B s
  | .subA_D => Sys2Proof.Machine.execSubA_D s
  | .subA_E => Sys2Proof.Machine.execSubA_E s
  | .subA_H => Sys2Proof.Machine.execSubA_H s
  | .subA_L => Sys2Proof.Machine.execSubA_L s
  | .subA_atHL => Sys2Proof.Machine.execSubA_atHL s
  | .subA_A => Sys2Proof.Machine.execSubA_A s
  | .sbcA_B => Sys2Proof.Machine.execSbcA_B s
  | .sbcA_D => Sys2Proof.Machine.execSbcA_D s
  | .sbcA_E => Sys2Proof.Machine.execSbcA_E s
  | .sbcA_H => Sys2Proof.Machine.execSbcA_H s
  | .sbcA_L => Sys2Proof.Machine.execSbcA_L s
  | .sbcA_atHL => Sys2Proof.Machine.execSbcA_atHL s
  | .sbcA_A => Sys2Proof.Machine.execSbcA_A s
  | .andA_B => Sys2Proof.Machine.execAndA_B s
  | .andA_D => Sys2Proof.Machine.execAndA_D s
  | .andA_E => Sys2Proof.Machine.execAndA_E s
  | .andA_H => Sys2Proof.Machine.execAndA_H s
  | .andA_L => Sys2Proof.Machine.execAndA_L s
  | .andA_atHL => Sys2Proof.Machine.execAndA_atHL s
  | .andA_A => Sys2Proof.Machine.execAndA_A s
  | .xorA_B => Sys2Proof.Machine.execXorA_B s
  | .xorA_D => Sys2Proof.Machine.execXorA_D s
  | .xorA_E => Sys2Proof.Machine.execXorA_E s
  | .xorA_H => Sys2Proof.Machine.execXorA_H s
  | .xorA_L => Sys2Proof.Machine.execXorA_L s
  | .xorA_atHL => Sys2Proof.Machine.execXorA_atHL s
  | .xorA_A => Sys2Proof.Machine.execXorA_A s
  | .orA_B => Sys2Proof.Machine.execOrA_B s
  | .orA_D => Sys2Proof.Machine.execOrA_D s
  | .orA_E => Sys2Proof.Machine.execOrA_E s
  | .orA_H => Sys2Proof.Machine.execOrA_H s
  | .orA_L => Sys2Proof.Machine.execOrA_L s
  | .orA_atHL => Sys2Proof.Machine.execOrA_atHL s
  | .orA_A => Sys2Proof.Machine.execOrA_A s
  | .cpA_B => Sys2Proof.Machine.execCpA_B s
  | .cpA_D => Sys2Proof.Machine.execCpA_D s
  | .cpA_E => Sys2Proof.Machine.execCpA_E s
  | .cpA_H => Sys2Proof.Machine.execCpA_H s
  | .cpA_L => Sys2Proof.Machine.execCpA_L s
  | .cpA_atHL => Sys2Proof.Machine.execCpA_atHL s
  | .cpA_A => Sys2Proof.Machine.execCpA_A s
  | .retNZ => Sys2Proof.Machine.execRetNZ s
  | .popBC => Sys2Proof.Machine.execPopBC s
  | .pushBC => Sys2Proof.Machine.execPushBC s
  | .im0 => Sys2Proof.Machine.execIm0 s
  | .rst00 => Sys2Proof.Machine.execRst00 s
  | .retZ => Sys2Proof.Machine.execRetZ s
  | .ret => Sys2Proof.Machine.execRet s
  | .bitPrefix => Sys2Proof.Machine.execBitPrefix s
  | .im1 => Sys2Proof.Machine.execIm1 s
  | .rst08 => Sys2Proof.Machine.execRst08 s
  | .retNC => Sys2Proof.Machine.execRetNC s
  | .popDE => Sys2Proof.Machine.execPopDE s
  | .pushDE => Sys2Proof.Machine.execPushDE s
  | .im2 => Sys2Proof.Machine.execIm2 s
  | .rst10 => Sys2Proof.Machine.execRst10 s
  | .retC => Sys2Proof.Machine.execRetC s
  | .exx => Sys2Proof.Machine.execExx s
  | .indexPrefix => Sys2Proof.Machine.execIndexPrefix s
  | .ldI_A => Sys2Proof.Machine.execLdI_A s
  | .rst18 => Sys2Proof.Machine.execRst18 s
  | .retPO => Sys2Proof.Machine.execRetPO s
  | .popHL => Sys2Proof.Machine.execPopHL s
  | .pushHL => Sys2Proof.Machine.execPushHL s
  | .reti => Sys2Proof.Machine.execReti s
  | .rst20 => Sys2Proof.Machine.execRst20 s
  | .retPE => Sys2Proof.Machine.execRetPE s
  | .jpHL => Sys2Proof.Machine.execJpHL s
  | .rst28 => Sys2Proof.Machine.execRst28 s
  | .retP => Sys2Proof.Machine.execRetP s
  | .popAF => Sys2Proof.Machine.execPopAF s
  | .di => Sys2Proof.Machine.execDi s
  | .pushAF => Sys2Proof.Machine.execPushAF s
  | .rst30 => Sys2Proof.Machine.execRst30 s
  | .retM => Sys2Proof.Machine.execRetM s
  | .ldSP_HL => Sys2Proof.Machine.execLdSP_HL s
  | .ei => Sys2Proof.Machine.execEi s
  | .rst38 => Sys2Proof.Machine.execRst38 s
  | .rlcB => Sys2Proof.Machine.execRlcB s
  | .rlcC => Sys2Proof.Machine.execRlcC s
  | .rlcD => Sys2Proof.Machine.execRlcD s
  | .rlcE => Sys2Proof.Machine.execRlcE s
  | .rlcH => Sys2Proof.Machine.execRlcH s
  | .rlcL => Sys2Proof.Machine.execRlcL s
  | .rlcAtHL => Sys2Proof.Machine.execRlcAtHL s
  | .rlcA => Sys2Proof.Machine.execRlcA s
  | .rrcB => Sys2Proof.Machine.execRrcB s
  | .rrcC => Sys2Proof.Machine.execRrcC s
  | .rrcD => Sys2Proof.Machine.execRrcD s
  | .rrcE => Sys2Proof.Machine.execRrcE s
  | .rrcH => Sys2Proof.Machine.execRrcH s
  | .rrcL => Sys2Proof.Machine.execRrcL s
  | .rrcAtHL => Sys2Proof.Machine.execRrcAtHL s
  | .rrcA => Sys2Proof.Machine.execRrcA s
  | .rlB => Sys2Proof.Machine.execRlB s
  | .rlC => Sys2Proof.Machine.execRlC s
  | .rlD => Sys2Proof.Machine.execRlD s
  | .rlE => Sys2Proof.Machine.execRlE s
  | .rlH => Sys2Proof.Machine.execRlH s
  | .rlL => Sys2Proof.Machine.execRlL s
  | .rlAtHL => Sys2Proof.Machine.execRlAtHL s
  | .rlA => Sys2Proof.Machine.execRlA s
  | .rrB => Sys2Proof.Machine.execRrB s
  | .rrC => Sys2Proof.Machine.execRrC s
  | .rrD => Sys2Proof.Machine.execRrD s
  | .rrE => Sys2Proof.Machine.execRrE s
  | .rrH => Sys2Proof.Machine.execRrH s
  | .rrL => Sys2Proof.Machine.execRrL s
  | .rrAtHL => Sys2Proof.Machine.execRrAtHL s
  | .rrA => Sys2Proof.Machine.execRrA s
  | .slaB => Sys2Proof.Machine.execSlaB s
  | .slaC => Sys2Proof.Machine.execSlaC s
  | .slaD => Sys2Proof.Machine.execSlaD s
  | .slaE => Sys2Proof.Machine.execSlaE s
  | .slaH => Sys2Proof.Machine.execSlaH s
  | .slaL => Sys2Proof.Machine.execSlaL s
  | .slaAtHL => Sys2Proof.Machine.execSlaAtHL s
  | .slaA => Sys2Proof.Machine.execSlaA s
  | .sraB => Sys2Proof.Machine.execSraB s
  | .sraC => Sys2Proof.Machine.execSraC s
  | .sraD => Sys2Proof.Machine.execSraD s
  | .sraE => Sys2Proof.Machine.execSraE s
  | .sraH => Sys2Proof.Machine.execSraH s
  | .sraL => Sys2Proof.Machine.execSraL s
  | .sraAtHL => Sys2Proof.Machine.execSraAtHL s
  | .sraA => Sys2Proof.Machine.execSraA s
  | .srlB => Sys2Proof.Machine.execSrlB s
  | .srlC => Sys2Proof.Machine.execSrlC s
  | .srlD => Sys2Proof.Machine.execSrlD s
  | .srlE => Sys2Proof.Machine.execSrlE s
  | .srlH => Sys2Proof.Machine.execSrlH s
  | .srlL => Sys2Proof.Machine.execSrlL s
  | .srlAtHL => Sys2Proof.Machine.execSrlAtHL s
  | .srlA => Sys2Proof.Machine.execSrlA s
  | .bit0_B => Sys2Proof.Machine.execBit0_B s
  | .bit0_C => Sys2Proof.Machine.execBit0_C s
  | .bit0_D => Sys2Proof.Machine.execBit0_D s
  | .bit0_E => Sys2Proof.Machine.execBit0_E s
  | .bit0_H => Sys2Proof.Machine.execBit0_H s
  | .bit0_L => Sys2Proof.Machine.execBit0_L s
  | .bit0_atHL => Sys2Proof.Machine.execBit0_atHL s
  | .bit0_A => Sys2Proof.Machine.execBit0_A s
  | .bit1_B => Sys2Proof.Machine.execBit1_B s
  | .bit1_C => Sys2Proof.Machine.execBit1_C s
  | .bit1_D => Sys2Proof.Machine.execBit1_D s
  | .bit1_E => Sys2Proof.Machine.execBit1_E s
  | .bit1_H => Sys2Proof.Machine.execBit1_H s
  | .bit1_L => Sys2Proof.Machine.execBit1_L s
  | .bit1_atHL => Sys2Proof.Machine.execBit1_atHL s
  | .bit1_A => Sys2Proof.Machine.execBit1_A s
  | .bit2_B => Sys2Proof.Machine.execBit2_B s
  | .bit2_C => Sys2Proof.Machine.execBit2_C s
  | .bit2_D => Sys2Proof.Machine.execBit2_D s
  | .bit2_E => Sys2Proof.Machine.execBit2_E s
  | .bit2_H => Sys2Proof.Machine.execBit2_H s
  | .bit2_L => Sys2Proof.Machine.execBit2_L s
  | .bit2_atHL => Sys2Proof.Machine.execBit2_atHL s
  | .bit2_A => Sys2Proof.Machine.execBit2_A s
  | .bit3_B => Sys2Proof.Machine.execBit3_B s
  | .bit3_C => Sys2Proof.Machine.execBit3_C s
  | .bit3_D => Sys2Proof.Machine.execBit3_D s
  | .bit3_E => Sys2Proof.Machine.execBit3_E s
  | .bit3_H => Sys2Proof.Machine.execBit3_H s
  | .bit3_L => Sys2Proof.Machine.execBit3_L s
  | .bit3_atHL => Sys2Proof.Machine.execBit3_atHL s
  | .bit3_A => Sys2Proof.Machine.execBit3_A s
  | .bit4_B => Sys2Proof.Machine.execBit4_B s
  | .bit4_C => Sys2Proof.Machine.execBit4_C s
  | .bit4_D => Sys2Proof.Machine.execBit4_D s
  | .bit4_E => Sys2Proof.Machine.execBit4_E s
  | .bit4_H => Sys2Proof.Machine.execBit4_H s
  | .bit4_L => Sys2Proof.Machine.execBit4_L s
  | .bit4_atHL => Sys2Proof.Machine.execBit4_atHL s
  | .bit4_A => Sys2Proof.Machine.execBit4_A s
  | .bit5_B => Sys2Proof.Machine.execBit5_B s
  | .bit5_C => Sys2Proof.Machine.execBit5_C s
  | .bit5_D => Sys2Proof.Machine.execBit5_D s
  | .bit5_E => Sys2Proof.Machine.execBit5_E s
  | .bit5_H => Sys2Proof.Machine.execBit5_H s
  | .bit5_L => Sys2Proof.Machine.execBit5_L s
  | .bit5_atHL => Sys2Proof.Machine.execBit5_atHL s
  | .bit5_A => Sys2Proof.Machine.execBit5_A s
  | .bit6_B => Sys2Proof.Machine.execBit6_B s
  | .bit6_C => Sys2Proof.Machine.execBit6_C s
  | .bit6_D => Sys2Proof.Machine.execBit6_D s
  | .bit6_E => Sys2Proof.Machine.execBit6_E s
  | .bit6_H => Sys2Proof.Machine.execBit6_H s
  | .bit6_L => Sys2Proof.Machine.execBit6_L s
  | .bit6_atHL => Sys2Proof.Machine.execBit6_atHL s
  | .bit6_A => Sys2Proof.Machine.execBit6_A s
  | .bit7_B => Sys2Proof.Machine.execBit7_B s
  | .bit7_C => Sys2Proof.Machine.execBit7_C s
  | .bit7_D => Sys2Proof.Machine.execBit7_D s
  | .bit7_E => Sys2Proof.Machine.execBit7_E s
  | .bit7_H => Sys2Proof.Machine.execBit7_H s
  | .bit7_L => Sys2Proof.Machine.execBit7_L s
  | .bit7_atHL => Sys2Proof.Machine.execBit7_atHL s
  | .bit7_A => Sys2Proof.Machine.execBit7_A s
  | .res0_B => Sys2Proof.Machine.execRes0_B s
  | .res0_C => Sys2Proof.Machine.execRes0_C s
  | .res0_D => Sys2Proof.Machine.execRes0_D s
  | .res0_E => Sys2Proof.Machine.execRes0_E s
  | .res0_H => Sys2Proof.Machine.execRes0_H s
  | .res0_L => Sys2Proof.Machine.execRes0_L s
  | .res0_atHL => Sys2Proof.Machine.execRes0_atHL s
  | .res0_A => Sys2Proof.Machine.execRes0_A s
  | .res1_B => Sys2Proof.Machine.execRes1_B s
  | .res1_C => Sys2Proof.Machine.execRes1_C s
  | .res1_D => Sys2Proof.Machine.execRes1_D s
  | .res1_E => Sys2Proof.Machine.execRes1_E s
  | .res1_H => Sys2Proof.Machine.execRes1_H s
  | .res1_L => Sys2Proof.Machine.execRes1_L s
  | .res1_atHL => Sys2Proof.Machine.execRes1_atHL s
  | .res1_A => Sys2Proof.Machine.execRes1_A s
  | .res2_B => Sys2Proof.Machine.execRes2_B s
  | .res2_C => Sys2Proof.Machine.execRes2_C s
  | .res2_D => Sys2Proof.Machine.execRes2_D s
  | .res2_E => Sys2Proof.Machine.execRes2_E s
  | .res2_H => Sys2Proof.Machine.execRes2_H s
  | .res2_L => Sys2Proof.Machine.execRes2_L s
  | .res2_atHL => Sys2Proof.Machine.execRes2_atHL s
  | .res2_A => Sys2Proof.Machine.execRes2_A s
  | .res3_B => Sys2Proof.Machine.execRes3_B s
  | .res3_C => Sys2Proof.Machine.execRes3_C s
  | .res3_D => Sys2Proof.Machine.execRes3_D s
  | .res3_E => Sys2Proof.Machine.execRes3_E s
  | .res3_H => Sys2Proof.Machine.execRes3_H s
  | .res3_L => Sys2Proof.Machine.execRes3_L s
  | .res3_atHL => Sys2Proof.Machine.execRes3_atHL s
  | .res3_A => Sys2Proof.Machine.execRes3_A s
  | .res4_B => Sys2Proof.Machine.execRes4_B s
  | .res4_C => Sys2Proof.Machine.execRes4_C s
  | .res4_D => Sys2Proof.Machine.execRes4_D s
  | .res4_E => Sys2Proof.Machine.execRes4_E s
  | .res4_H => Sys2Proof.Machine.execRes4_H s
  | .res4_L => Sys2Proof.Machine.execRes4_L s
  | .res4_atHL => Sys2Proof.Machine.execRes4_atHL s
  | .res4_A => Sys2Proof.Machine.execRes4_A s
  | .res5_B => Sys2Proof.Machine.execRes5_B s
  | .res5_C => Sys2Proof.Machine.execRes5_C s
  | .res5_D => Sys2Proof.Machine.execRes5_D s
  | .res5_E => Sys2Proof.Machine.execRes5_E s
  | .res5_H => Sys2Proof.Machine.execRes5_H s
  | .res5_L => Sys2Proof.Machine.execRes5_L s
  | .res5_atHL => Sys2Proof.Machine.execRes5_atHL s
  | .res5_A => Sys2Proof.Machine.execRes5_A s
  | .res6_B => Sys2Proof.Machine.execRes6_B s
  | .res6_C => Sys2Proof.Machine.execRes6_C s
  | .res6_D => Sys2Proof.Machine.execRes6_D s
  | .res6_E => Sys2Proof.Machine.execRes6_E s
  | .res6_H => Sys2Proof.Machine.execRes6_H s
  | .res6_L => Sys2Proof.Machine.execRes6_L s
  | .res6_atHL => Sys2Proof.Machine.execRes6_atHL s
  | .res6_A => Sys2Proof.Machine.execRes6_A s
  | .res7_B => Sys2Proof.Machine.execRes7_B s
  | .res7_C => Sys2Proof.Machine.execRes7_C s
  | .res7_D => Sys2Proof.Machine.execRes7_D s
  | .res7_E => Sys2Proof.Machine.execRes7_E s
  | .res7_H => Sys2Proof.Machine.execRes7_H s
  | .res7_L => Sys2Proof.Machine.execRes7_L s
  | .res7_atHL => Sys2Proof.Machine.execRes7_atHL s
  | .res7_A => Sys2Proof.Machine.execRes7_A s
  | .set0_B => Sys2Proof.Machine.execSet0_B s
  | .set0_C => Sys2Proof.Machine.execSet0_C s
  | .set0_D => Sys2Proof.Machine.execSet0_D s
  | .set0_E => Sys2Proof.Machine.execSet0_E s
  | .set0_H => Sys2Proof.Machine.execSet0_H s
  | .set0_L => Sys2Proof.Machine.execSet0_L s
  | .set0_atHL => Sys2Proof.Machine.execSet0_atHL s
  | .set0_A => Sys2Proof.Machine.execSet0_A s
  | .set1_B => Sys2Proof.Machine.execSet1_B s
  | .set1_C => Sys2Proof.Machine.execSet1_C s
  | .set1_D => Sys2Proof.Machine.execSet1_D s
  | .set1_E => Sys2Proof.Machine.execSet1_E s
  | .set1_H => Sys2Proof.Machine.execSet1_H s
  | .set1_L => Sys2Proof.Machine.execSet1_L s
  | .set1_atHL => Sys2Proof.Machine.execSet1_atHL s
  | .set1_A => Sys2Proof.Machine.execSet1_A s
  | .set2_B => Sys2Proof.Machine.execSet2_B s
  | .set2_C => Sys2Proof.Machine.execSet2_C s
  | .set2_D => Sys2Proof.Machine.execSet2_D s
  | .set2_E => Sys2Proof.Machine.execSet2_E s
  | .set2_H => Sys2Proof.Machine.execSet2_H s
  | .set2_L => Sys2Proof.Machine.execSet2_L s
  | .set2_atHL => Sys2Proof.Machine.execSet2_atHL s
  | .set2_A => Sys2Proof.Machine.execSet2_A s
  | .set3_B => Sys2Proof.Machine.execSet3_B s
  | .set3_C => Sys2Proof.Machine.execSet3_C s
  | .set3_D => Sys2Proof.Machine.execSet3_D s
  | .set3_E => Sys2Proof.Machine.execSet3_E s
  | .set3_H => Sys2Proof.Machine.execSet3_H s
  | .set3_L => Sys2Proof.Machine.execSet3_L s
  | .set3_atHL => Sys2Proof.Machine.execSet3_atHL s
  | .set3_A => Sys2Proof.Machine.execSet3_A s
  | .set4_B => Sys2Proof.Machine.execSet4_B s
  | .set4_C => Sys2Proof.Machine.execSet4_C s
  | .set4_D => Sys2Proof.Machine.execSet4_D s
  | .set4_E => Sys2Proof.Machine.execSet4_E s
  | .set4_H => Sys2Proof.Machine.execSet4_H s
  | .set4_L => Sys2Proof.Machine.execSet4_L s
  | .set4_atHL => Sys2Proof.Machine.execSet4_atHL s
  | .set4_A => Sys2Proof.Machine.execSet4_A s
  | .set5_B => Sys2Proof.Machine.execSet5_B s
  | .set5_C => Sys2Proof.Machine.execSet5_C s
  | .set5_D => Sys2Proof.Machine.execSet5_D s
  | .set5_E => Sys2Proof.Machine.execSet5_E s
  | .set5_H => Sys2Proof.Machine.execSet5_H s
  | .set5_L => Sys2Proof.Machine.execSet5_L s
  | .set5_atHL => Sys2Proof.Machine.execSet5_atHL s
  | .set5_A => Sys2Proof.Machine.execSet5_A s
  | .set6_B => Sys2Proof.Machine.execSet6_B s
  | .set6_C => Sys2Proof.Machine.execSet6_C s
  | .set6_D => Sys2Proof.Machine.execSet6_D s
  | .set6_E => Sys2Proof.Machine.execSet6_E s
  | .set6_H => Sys2Proof.Machine.execSet6_H s
  | .set6_L => Sys2Proof.Machine.execSet6_L s
  | .set6_atHL => Sys2Proof.Machine.execSet6_atHL s
  | .set6_A => Sys2Proof.Machine.execSet6_A s
  | .set7_B => Sys2Proof.Machine.execSet7_B s
  | .set7_C => Sys2Proof.Machine.execSet7_C s
  | .set7_D => Sys2Proof.Machine.execSet7_D s
  | .set7_E => Sys2Proof.Machine.execSet7_E s
  | .set7_H => Sys2Proof.Machine.execSet7_H s
  | .set7_L => Sys2Proof.Machine.execSet7_L s
  | .set7_atHL => Sys2Proof.Machine.execSet7_atHL s
  | .set7_A => Sys2Proof.Machine.execSet7_A s
  | .addIX_BC => Sys2Proof.Machine.execAddIX_BC s
  | .addIX_DE => Sys2Proof.Machine.execAddIX_DE s
  | .incIX => Sys2Proof.Machine.execIncIX s
  | .addIX_IX => Sys2Proof.Machine.execAddIX_IX s
  | .decIX => Sys2Proof.Machine.execDecIX s
  | .addIX_SP => Sys2Proof.Machine.execAddIX_SP s
  | .popIX => Sys2Proof.Machine.execPopIX s
  | .pushIX => Sys2Proof.Machine.execPushIX s
  | .jpIX => Sys2Proof.Machine.execJpIX s
  | .ldSP_IX => Sys2Proof.Machine.execLdSP_IX s

end Sys2Proof.Machine
end

