-- ==== Sys2Proof/Machine/Engine.lean ====
section
/-! DEFINITION. The engine of 41: `execute()` with its prefixes, the start and the end of a step, and the choice of what a
step does. -/

namespace Sys2Proof.Machine

/-- One round of 41 R185's `execute()`: an opcode byte with its operand bytes; nothing more where its table has no arm
(`cycles` then stays 0); another round after a prefix byte ("recursively re-enter step 3", 30 R120); else the
instruction. -/
def executeUnit (again : State → Out) (s : State) : Out :=
  match fetchUnit s with
  | .fault f => .fault f
  | .ok none s1 => .next s1
  | .ok (some i) s1 =>
    if i.isPrefix then
      match exec i s1 with
      | .next s2 => again s2
      | .fault f => .fault f
      | .refused r => .refused r
    else exec i s1

/-- 41 R185: `execute()`. At most two prefix bytes precede the last opcode byte (30 R103): the index+bit table has no
prefix row (30 R126). -/
def execute (s : State) : Out :=
  executeUnit (executeUnit (executeUnit .next)) (s.writePfx .none)

/-- 41 R180: a powered step sets `cycles` to 0 and emits `ExecutingInstruction`. -/
def State.beginStep (s : State) : State := { s with cycles := 0, events := s.events ++ [.executingInstruction] }

/-- 41 R180, R183; 60 R379: exactly one of five things, in this order of priority. -/
def State.pollAndAct (s : State) : Out :=
  if s.resetLine then serviceReset s
  else if s.nmiLine then serviceNmi s
  else if s.intLine && s.iff then serviceInt s
  else if s.halted then haltedStep s
  else execute s

/-- The bytes a step has fetched: the values of its transactions with a fetch tag. -/
def fetchedSince (before : List Transaction) (now : List Transaction) : List Byte :=
  ((now.drop before.length).filter fun t => decide (t.tag = .fetch ∨ t.tag = .fetchOperand)).map (·.value)

/-- 41 R180, R194: the end of a step that started at `start`. `ExecutedInstruction` is emitted, the decode state is gone
(10 R47), and the zero test raises `DecodeFailure` where no arm has added a cost. -/
def endStep (start : State) (o : Out) : Out :=
  match o with
  | .next s =>
    let s1 := (s.emit .executedInstruction).writePfx .none
    if s1.cycles = 0 then
      .fault (.decodeFailure { s1 with faulted := true } start.pc (fetchedSince start.trace s1.trace))
    else .next s1
  | .fault f => .fault f
  | .refused r => .refused r

/-- 41 R180, R181: `step()`. A machine that is not powered, or is faulted, does nothing. -/
def engineStep (s : State) : Out :=
  if s.powered && !s.faulted then endStep s s.beginStep.pollAndAct else .next s

end Sys2Proof.Machine
end

