-- ==== Sys2Proof/Machine/Environment.lean ====
section
/-! DEFINITION. What the environment may do to the machine between two steps (60 R400; 70 R410 to R412). -/

namespace Sys2Proof.Machine

/-- 70 R410: powerOn. The registers it leaves unspecified are free values (log entry 9), fresh at each powerOn. The
lines, `INT_DATA` and memory keep what the environment gave them. -/
def State.powerOn (s : State) : State :=
  { s with
    pc := 0x0000, sp := 0xFFFF, af := joinBytes (Config.powerOnByte s.draws) 0x00
    iff := false, im := .im0, i := 0x00
    halted := false, faulted := false, cycles := 0, powered := true
    bc := Config.powerOnWord s.draws
    de := Config.powerOnWord (s.draws + 1)
    hl := Config.powerOnWord (s.draws + 2)
    ix := Config.powerOnWord (s.draws + 3)
    afAlt := Config.powerOnWord (s.draws + 4)
    bcAlt := Config.powerOnWord (s.draws + 5)
    deAlt := Config.powerOnWord (s.draws + 6)
    hlAlt := Config.powerOnWord (s.draws + 7)
    latch := Config.powerOnWord (s.draws + 8)
    address := Config.powerOnWord (s.draws + 9)
    data := Config.powerOnByte (s.draws + 1)
    pfx := .none
    draws := s.draws + 10 }

/-- 70 R411: powerOff. Nothing else changes; `halted` keeps its value. -/
def State.powerOff (s : State) : State := { s with powered := false }

/-- 60 R400, "load a register snapshot": every register, flag and control bit, and nothing else, comes from the
snapshot. DESIGN CHOICE, log entry 17, on three points. R400's "every control bit" is taken to hold of `faulted` and
`powered` too, where 10 R43, 60 R374 and 92 D23 say that only powerOn clears `faulted`, and 10 R41 that powerOn and
powerOff write `powered`. It is taken to hold of the counter `cycles` (10 R42) too, which is no bit, and which 20 R82
does not name among what a snapshot is (registers, flags, memory bytes). And the bus latches `ADDRESS` and `DATA` are
taken for registers, where 20 R78 names latches apart (10 R46). -/
def State.loadSnapshot (snapshot s : State) : State :=
  { s with
    af := snapshot.af, bc := snapshot.bc, de := snapshot.de, hl := snapshot.hl
    afAlt := snapshot.afAlt, bcAlt := snapshot.bcAlt, deAlt := snapshot.deAlt, hlAlt := snapshot.hlAlt
    ix := snapshot.ix, sp := snapshot.sp, pc := snapshot.pc, latch := snapshot.latch
    i := snapshot.i, im := snapshot.im, iff := snapshot.iff
    halted := snapshot.halted, powered := snapshot.powered, faulted := snapshot.faulted
    cycles := snapshot.cycles, address := snapshot.address, data := snapshot.data }

/-- A move of the environment between two steps: the rows of 60 R400's table, and only those (92 D30). There is no move
that lowers `RESET` or `NMI`, and none that breaks 20 R63's invariant. `answer` and `plan` write down, ahead of a step,
what the table lets the environment do during it (log entries 7 and 8). -/
inductive HostMove where
  | powerOn
  | powerOff
  | raiseReset
  | raiseNmi
  /-- raise or lower `INT` -/
  | driveInt (raised : Bool)
  /-- set `INT_DATA` -/
  | intData (v : Byte)
  /-- write a byte of the backing stores, by its index -/
  | poke (index : Nat) (v : Byte)
  /-- change what `MAP` returns -/
  | remap (m : BoundedMap)
  | snapshot (registers : State)
  /-- make an answer ready for a coming port read (20 R74) -/
  | answer (v : Byte)
  /-- plan the moves at the coming bus hooks (20 R78) -/
  | plan (hooks : List (List EnvMove))
deriving DecidableEq, Repr

/-- The state after a move of the environment. -/
def State.host (s : State) : HostMove → State
  | .powerOn => s.powerOn
  | .powerOff => s.powerOff
  | .raiseReset => s.drive .reset true
  | .raiseNmi => s.drive .nmi true
  | .driveInt raised => s.drive .int raised
  | .intData v => s.writeIntData v
  | .poke k v => s.writeMem k v
  | .remap m => s.writeMap m.regions
  | .snapshot r => State.loadSnapshot r s
  | .answer v => { s with portIn := s.portIn ++ [v] }
  | .plan h => s.writeHooks h

/-- A byte put where the bus finds it at an address, as a loader does (60 R400). -/
def State.placeByte (s : State) (a : Word) (v : Byte) : State :=
  match mapAddr s.map a with
  | some r => s.writeMem (r.origin + r.offset a) v
  | none => s

/-- Bytes put at consecutive addresses. -/
def State.placeBytes (s : State) (a : Word) : List Byte → State
  | [] => s
  | v :: rest => (s.placeByte a v).placeBytes (a + 1) rest

end Sys2Proof.Machine
end

