-- ==== Sys2Proof/Machine/Step.lean ====
section
/-! DEFINITION. One step of the machine, and the state in which a given instruction is the next one fetched. -/

namespace Sys2Proof.Machine

/-- 41 R180: one call of `step()`. -/
def step (s : State) : Host.Outcome State Fault Refusal := engineStep s

/-- The state with an instruction's four bytes (the low `nbits` bits of `w`, the rest zero) placed at `PC`, where the
next step fetches. This is the environment's loading of a program (60 R400, 70 R415; log entry 14). -/
def State.withFetchWord (s : State) (nbits w : Nat) : State := s.placeBytes s.pc (tableBytes nbits w)

end Sys2Proof.Machine
end

