-- ==== Sys2Proof/Safety.lean ====
section
/-! DEFINITION. The terms claims are stated in: the REF bus, the byte at an address, the state after a bus transaction on
the REF bus, the encodings of 30 as formulas over its operand tables, what a step may not touch, and the invariants. -/

namespace Sys2Proof.Machine

/-- The REF bus (20 R65): one region with every address, and no move of the environment at any hook. -/
abbrev State.onRefBus (s : State) : Prop := s.map = [refRegion] ∧ s.hooks = []

/-- The byte memory holds at an address, on the REF bus (20 R65: the offset is the address). -/
def State.byteAt (s : State) (a : Word) : Byte := Memory.read s.mem a.toNat

/-- The state after the read transaction of the byte at an address, on the REF bus (20 R66): the two latches, the two
events and the trace record; nothing else. -/
def State.afterRead (s : State) (a : Word) (tag : Tag) : State :=
  { s with
    address := a
    data := s.byteAt a
    events := s.events ++ [.reading a, .read a (s.byteAt a)]
    trace := s.trace ++ [⟨.mem, .read, a, s.byteAt a, tag⟩] }

/-- The state after the write transaction of a byte to an address, on the REF bus (20 R67). -/
def State.afterWrite (s : State) (a : Word) (v : Byte) (tag : Tag) : State :=
  { s with
    address := a
    data := v
    mem := Memory.write s.mem a.toNat v
    events := s.events ++ [.writing a v, .written a v]
    trace := s.trace ++ [⟨.mem, .write, a, v, tag⟩] }

/-- The state after the port read that answers `v` (20 R74). -/
def State.afterPortRead (s : State) (port v : Byte) : State :=
  { s with
    address := zeroExt port
    data := v
    portIn := s.portIn.tail
    draws := s.draws + 1
    events := s.events ++ [.portReading port, .portRead port v]
    trace := s.trace ++ [⟨.io, .read, zeroExt port, v, .port⟩] }

/-- The state after a port write (20 R75). -/
def State.afterPortWrite (s : State) (port v : Byte) : State :=
  { s with
    address := zeroExt port
    data := v
    events := s.events ++ [.portWriting port v, .portWritten port v]
    trace := s.trace ++ [⟨.io, .write, zeroExt port, v, .port⟩] }

/-- The state after fetching the byte at `PC`, on the REF bus (41 R186, R187). -/
def State.afterFetch (s : State) (tag : Tag) : State :=
  (s.afterRead s.pc tag).writePC (s.pc + 1)

/-- The state after pushing a word, on the REF bus (20 R71): two writes, high byte first, and `SP` two lower. -/
def State.afterPush (s : State) (w : Word) : State :=
  (((s.writeSP (s.sp + 0xFFFF)).afterWrite (s.sp + 0xFFFF) (hiByte w) .data).writeSP (s.sp + 0xFFFE)).afterWrite
    (s.sp + 0xFFFE) (loByte w) .data

/-- The word on the top of the stack, on the REF bus (20 R71). -/
def State.stackTop (s : State) : Word := joinBytes (s.byteAt (s.sp + 1)) (s.byteAt s.sp)

/-- The state after popping a word, on the REF bus (20 R71): two reads, low byte first, and `SP` two higher. -/
def State.afterPop (s : State) : State :=
  (((s.afterRead s.sp .data).writeSP (s.sp + 1)).afterRead (s.sp + 1) .data).writeSP (s.sp + 2)

/-- The word at an address, on the REF bus (20 R70): the low byte at the address, the high byte at the next. -/
def State.wordAt (s : State) (a : Word) : Word := joinBytes (s.byteAt (a + 1)) (s.byteAt a)

/-- The state after reading the word at an address, on the REF bus (20 R70). -/
def State.afterRead16 (s : State) (a : Word) : State := (s.afterRead a .data).afterRead (a + 1) .data

/-- The state after writing a word to an address, on the REF bus (20 R70). -/
def State.afterWrite16 (s : State) (a w : Word) : State :=
  (s.afterWrite a (loByte w) .data).afterWrite (a + 1) (hiByte w) .data

/-- The address of a memory operand (41 R192 `EA`); for a register there is none. -/
def State.address8 (s : State) : Loc → Option Word
  | .reg _ => none
  | .atHL => some s.hl
  | .atIX d => some (s.ix + signExt d)

/-- The value of an operand, on the REF bus (41 R192 `Read8`). -/
def State.value8 (s : State) : Loc → Byte
  | .reg r => s.read8 r
  | .atHL => s.byteAt s.hl
  | .atIX d => s.byteAt (s.ix + signExt d)

/-- The state after reading an operand, on the REF bus (41 R192). -/
def State.afterRead8 (s : State) : Loc → State
  | .reg _ => s
  | .atHL => s.afterRead s.hl .data
  | .atIX d => (s.writeLatch (s.ix + signExt d)).afterRead (s.ix + signExt d) .data

/-- The state after writing an operand, on the REF bus (41 R192). -/
def State.afterWrite8 (s : State) (l : Loc) (v : Byte) : State :=
  match l with
  | .reg r => s.write8 r v
  | .atHL => s.afterWrite s.hl v .data
  | .atIX d => (s.writeLatch (s.ix + signExt d)).afterWrite (s.ix + signExt d) v .data

/-- The registers, control bits and input lines that only named instructions and services may change: the alternate
bank, `I`, `IM`, `IFF`, `halted`, `powered`, `faulted` and the lines. -/
abbrev State.sameControl (s t : State) : Prop :=
  t.afAlt = s.afAlt ∧ t.bcAlt = s.bcAlt ∧ t.deAlt = s.deAlt ∧ t.hlAlt = s.hlAlt ∧
  t.i = s.i ∧ t.im = s.im ∧ t.iff = s.iff ∧ t.halted = s.halted ∧ t.powered = s.powered ∧ t.faulted = s.faulted ∧
  t.resetLine = s.resetLine ∧ t.nmiLine = s.nmiLine ∧ t.intLine = s.intLine ∧ t.intData = s.intData

/-- A raised `RESET` stays raised, and a raised `NMI` (10 R44: only the engine lowers them, when it services them). -/
abbrev State.keepsRaised (s t : State) : Prop :=
  (s.resetLine = true → t.resetLine = true) ∧ (s.nmiLine = true → t.nmiLine = true)

/-- The invariant between steps: memory keeps its canonical form (log entry 4), and no prefix is active (10 R47). -/
abbrev State.inv (s : State) : Prop := Memory.wf s.mem = true ∧ s.pfx = .none

/-- While halted, `PC` holds the address of a `HALT` byte (60 R381), on the REF bus. -/
abbrev State.haltInv (s : State) : Prop := s.onRefBus ∧ (s.halted = true → s.byteAt s.pc = 0x76)

/-- What is the block's own but the bus latches and the logs: its registers and its control state (10 sections 1 to 4).
Neither a bus transaction nor the environment changes any of it (20 R78). -/
abbrev State.sameBlock (s t : State) : Prop :=
  t.af = s.af ∧ t.bc = s.bc ∧ t.de = s.de ∧ t.hl = s.hl ∧ t.afAlt = s.afAlt ∧ t.bcAlt = s.bcAlt ∧
  t.deAlt = s.deAlt ∧ t.hlAlt = s.hlAlt ∧ t.ix = s.ix ∧ t.sp = s.sp ∧ t.pc = s.pc ∧ t.latch = s.latch ∧
  t.i = s.i ∧ t.im = s.im ∧ t.iff = s.iff ∧ t.halted = s.halted ∧ t.powered = s.powered ∧
  t.faulted = s.faulted ∧ t.cycles = s.cycles ∧ t.pfx = s.pfx

/-! ## Encodings as formulas (30 sections 1 to 3) -/

/-- The opcode byte with the fields `x`, `y`, `z` (30 R100: `op = x*64 + y*8 + z`). -/
def opcode (x y z : Nat) : Byte := BitVec.ofNat 8 (x * 64 + y * 8 + z)

/-- The index of a register in `R8` (30 R112); 6 is the memory operand. -/
def codeReg8 : Reg8 → Nat
  | .b => 0 | .c => 1 | .d => 2 | .e => 3 | .h => 4 | .l => 5 | .a => 7

/-- The index in `RP` (30 R113). -/
def codePair : Pair → Nat
  | .bc => 0 | .de => 1 | .third => 2 | .sp => 3

/-- The index in `CC` (30 R115). -/
def codeCond : Cond → Nat
  | .nz => 0 | .z => 1 | .nc => 2 | .c => 3 | .po => 4 | .pe => 5 | .p => 6 | .m => 7

/-- The index in `ALU` (30 R116). -/
def codeAlu : AluOp → Nat
  | .add => 0 | .adc => 1 | .sub => 2 | .sbc => 3 | .and => 4 | .xor => 5 | .or => 6 | .cp => 7

/-- The index in `ROT` (30 R116). -/
def codeRot : RotOp → Nat
  | .rlc => 0 | .rrc => 1 | .rl => 2 | .rr => 3 | .sla => 4 | .sra => 5 | .srl => 7

/-- The two bytes of a 16-bit operand, low byte first (30 R104). -/
def wordBytes (nn : Word) : List Byte := [loByte nn, hiByte nn]

/-- The bytes of a form whose operand `R8[z]` is selected by the field `z` (30 R112, R123). -/
def bytesByZ (x y : Nat) : Loc → List Byte
  | .reg r => [opcode x y (codeReg8 r)]
  | .atHL => [opcode x y 6]
  | .atIX d => [0xDD, opcode x y 6, d]

/-- The bytes of a form whose operand `R8[y]` is selected by the field `y` (30 R112, R123). -/
def bytesByY (x z : Nat) : Loc → List Byte
  | .reg r => [opcode x (codeReg8 r) z]
  | .atHL => [opcode x 6 z]
  | .atIX d => [0xDD, opcode x 6 z, d]

/-- The bytes of a form of the bit table or the index+bit table (30 R125, R126). -/
def bytesOfBit (x y : Nat) : Loc → List Byte
  | .reg r => [0xCB, opcode x y (codeReg8 r)]
  | .atHL => [0xCB, opcode x y 6]
  | .atIX d => [0xDD, 0xCB, d, opcode x y 6]

/-- The bytes of an accumulator operation (30 R117). -/
def bytesOfAlu (op : AluOp) : AluSrc → List Byte
  | .loc l => bytesByZ 2 (codeAlu op) l
  | .imm n => [opcode 2 (codeAlu op) 1, n]

/-- The bytes of a form that names `HLX`, with its opcode byte and operand bytes (30 R123): the index prefix stands
before the form with `IX`. -/
def bytesOfHLX (op : Byte) (operands : List Byte) : HLX → List Byte
  | .hl => op :: operands
  | .ix => 0xDD :: op :: operands

/-- The bytes of a form that names `RP[p]` with `q` in the low bit of `y`, `z`, and operand bytes (30 R113). -/
def bytesOfPair (q z : Nat) (operands : List Byte) : Reg16 → List Byte
  | .bc => opcode 0 q z :: operands
  | .de => opcode 0 (2 + q) z :: operands
  | .hl => opcode 0 (4 + q) z :: operands
  | .sp => opcode 0 (6 + q) z :: operands
  | .ix => 0xDD :: opcode 0 (4 + q) z :: operands

/-- The bytes of a form that names `RP2[p]`, with `x = 3`, `q = 0` and `z` (30 R114). -/
def bytesOfStack (z : Nat) : StackReg → List Byte
  | .bc => [opcode 3 0 z]
  | .de => [opcode 3 2 z]
  | .hl => [opcode 3 4 z]
  | .af => [opcode 3 6 z]
  | .ix => [0xDD, opcode 3 4 z]

/-- The bytes decode to the instruction, whatever follows them. -/
abbrev decodesTo (bytes : List Byte) (i : Instr) : Prop := ∀ rest, decode (bytes ++ rest) = .ok (i, rest)

/-! ## Costs (70 R430) -/

/-- The cost of a form by its 8-bit operand: a register, `(HL)`, `(IX+d)`. -/
def cost8 (register memory displaced : Nat) : Loc → Nat
  | .reg _ => register
  | .atHL => memory
  | .atIX _ => displaced

/-- The cost of a form that names `HLX`: without and with the index prefix. -/
def costHLX (plain indexed : Nat) : HLX → Nat
  | .hl => plain
  | .ix => indexed

/-- The cost of a form that names a 16-bit register: without and with the index prefix. -/
def cost16 (plain indexed : Nat) : Reg16 → Nat
  | .ix => indexed
  | _ => plain

/-- The cost of `PUSH` or `POP`: without and with the index prefix. -/
def costStack (plain indexed : Nat) : StackReg → Nat
  | .ix => indexed
  | _ => plain

/-- The cost of an accumulator operation (43 section 1). -/
def costAlu : AluSrc → Nat
  | .loc l => cost8 4 7 19 l
  | .imm _ => 7

/-! ## Accumulator operands (43 section 1) -/

/-- The value of the right operand, on the REF bus. -/
def State.valueSrc (s : State) : AluSrc → Byte
  | .loc l => s.value8 l
  | .imm n => n

/-- The state after reading the right operand, on the REF bus. -/
def State.afterSrc (s : State) : AluSrc → State
  | .loc l => s.afterRead8 l
  | .imm _ => s

/-! ## Exceptions -/

/-- No state makes the instruction fault. -/
abbrev neverFaults (i : Instr) : Prop := ∀ s f, exec i s ≠ .fault f

/-- The only fault the instruction can end in, on any bus, is `ConfigurationError`; the state it leaves is faulted and
has not been given the instruction's cost (60 R372). -/
abbrev onlyConfigurationError (i : Instr) : Prop :=
  ∀ s f, exec i s = .fault f →
    ∃ left kind a, f = .configurationError left kind a ∧ left.faulted = true ∧ left.cycles = s.cycles

/-! ## Fetching an instruction on the REF bus (41 section 2) -/

/-- The four bytes from `PC` on, on the REF bus: no instruction is longer (30 R103). -/
def State.codeBytes (s : State) : List Byte :=
  [s.byteAt s.pc, s.byteAt (s.pc + 1), s.byteAt (s.pc + 2), s.byteAt (s.pc + 3)]

/-- The tags with which the bytes of an instruction are fetched (30 R103; 41 R186, R187): opcode and prefix bytes with
`fetch`, displacement and immediate bytes with `fetch-operand`. -/
def fetchTags (bytes : List Byte) : List Tag :=
  match bytes with
  | [] => []
  | b :: rest =>
    if b = 0xDD then
      match rest with
      | [] => [.fetch]
      | c :: rest' =>
        if c = 0xCB then [.fetch, .fetch, .fetchOperand, .fetch]
        else .fetch :: .fetch :: rest'.map fun _ => .fetchOperand
    else if b = 0xCB then [.fetch, .fetch]
    else .fetch :: rest.map fun _ => .fetchOperand

/-- The displacement byte of a `(IX+d)` form: the formats DD_OP_D, DD_OP_D_N (whose opcode byte is 0x36) and
DD_CB_D_OP (30 R103). -/
def displacementOf : List Byte → Option Byte
  | [p, _, d] => if p = 0xDD then some d else none
  | [p, op, d, _] => if p = 0xDD ∧ (op = 0xCB ∨ op = 0x36) then some d else none
  | _ => none

/-- The decode state when the last opcode byte is looked up (41 R185). -/
def prefixesOf : List Byte → PrefixState
  | p :: op :: rest =>
    if p = 0xDD then (if op = 0xCB then .indexBit (rest.headD 0) else .index)
    else if p = 0xCB then .bit
    else .none
  | _ => .none

/-- The state after fetches with the given tags, on the REF bus. -/
def State.afterFetches (s : State) : List Tag → State
  | [] => s
  | g :: rest => (s.afterFetch g).afterFetches rest

/-- The state in which an instruction of these bytes has its meaning run, on the REF bus (41 R185, R192): the step has
begun, the bytes are fetched, and for a `(IX+d)` form `LATCH` holds the address. -/
def State.fetched (s : State) (bytes : List Byte) : State :=
  let s1 := (s.beginStep.afterFetches (fetchTags bytes)).writePfx (prefixesOf bytes)
  match displacementOf bytes with
  | some d => s1.writeLatch (s.ix + signExt d)
  | none => s1

/-- The machine is about to execute an instruction on the REF bus: powered, not faulted, not halted, no unmasked
interrupt (41 R180, R183). -/
abbrev State.ready (s : State) : Prop :=
  s.onRefBus ∧ s.powered = true ∧ s.faulted = false ∧ s.halted = false ∧ s.resetLine = false ∧ s.nmiLine = false ∧
  (s.intLine && s.iff) = false

/-- The address a service pushes (60 R381): past the `HALT` byte if the machine was halted. -/
def State.returnAddress (s : State) : Word := if s.halted then s.pc + 1 else s.pc

end Sys2Proof.Machine
end

