-- ==== Sys2Proof/Certificates/Slice0/Obligations.lean ====
section
/-! DEFINITION. The statements for the provers, each as a proposition. They speak of the decoder and encoder, of one
instruction (`exec`), and of one step of the machine (`step`), in the terms of Sys2Proof/Safety.lean. `a + 0xFFFF` is
`a - 1` modulo 65536. -/

open Sys2Proof Sys2Proof.Machine

/-! ## Encoding and decoding (30) -/

/-- 30 R103 to R105: the decoder reads back what the encoder writes, for every complete instruction and all its operand
bytes, whatever bytes follow. -/
def Obligations.DecodeOfEncode : Prop :=
  ∀ (i : Instr) (rest : List Byte), WellFormed i = true → decode (encode i ++ rest) = .ok (i, rest)

/-- 30 R103 to R105, the other way: what decodes is a complete instruction, and the bytes taken are exactly its
encoding. No two byte sequences mean one instruction. -/
def Obligations.EncodeOfDecode : Prop :=
  ∀ (bytes : List Byte) (i : Instr) (rest : List Byte), decode bytes = .ok (i, rest) →
    WellFormed i = true ∧ bytes = encode i ++ rest ∧ 1 ≤ (encode i).length ∧ (encode i).length ≤ 4

/-- 30 R101 "Decode totality" with the formulas of R100. -/
def Obligations.DecodeMatrixIsTotal : Prop :=
  ∀ op : Byte,
    (quintuple op).x < 4 ∧ (quintuple op).y < 8 ∧ (quintuple op).z < 8 ∧ (quintuple op).p < 4 ∧ (quintuple op).q < 2 ∧
    (quintuple op).x = op.toNat / 64 ∧ (quintuple op).y = op.toNat / 8 % 8 ∧ (quintuple op).z = op.toNat % 8 ∧
    (quintuple op).p = (quintuple op).y / 2 % 4 ∧ (quintuple op).q = (quintuple op).y % 2 ∧
    op.toNat = (quintuple op).x * 64 + (quintuple op).y * 8 + (quintuple op).z ∧
    (quintuple op).y = 2 * (quintuple op).p + (quintuple op).q

/-- One or more words for each format of 30 R103, written out from 30 R119 to R126 (and 95 section 1); most are those
rules' own examples, and DD 36 05 2A is written from 30 R124's list and the format DD_OP_D_N. -/
def Obligations.WorkedWordsDecode : Prop :=
  decode [0x89, 0x7C] = .ok (.adcA_n 0x7C, []) ∧ decode [0x78] = .ok (.ldA_B, []) ∧
  decode [0x21, 0x34, 0x12] = .ok (.ldHL_nn 0x1234, []) ∧ decode [0x20, 0xFC] = .ok (.jrNZ 0xFC, []) ∧
  decode [0xCB, 0xDD] = .ok (.set3_L, []) ∧ decode [0xDD, 0x29] = .ok (.addIX_IX, []) ∧
  decode [0xDD, 0x7E, 0xFE] = .ok (.ldA_IXd 0xFE, []) ∧ decode [0xDD, 0x36, 0x05, 0x2A] = .ok (.ldIXd_n 0x05 0x2A, []) ∧
  decode [0xDD, 0x2A, 0x00, 0x40] = .ok (.ldIX_mem 0x4000, []) ∧
  decode [0xDD, 0xCB, 0x05, 0xC6] = .ok (.set0_IXd 0x05, []) ∧ decode [0xE6] = .ok (.reti, [])

/-- 30 R127 and the lists of 30 R119, R124, R125, R126: exactly these bytes have no arm in their table; 12 of the main
table, 8 of the bit table, 217 of the index table (all but R124's 38 and 0xCB), 225 of the index+bit table (90 C11). -/
def Obligations.UndefinedBytes : Prop :=
  (∀ op : Byte, armOf .none op = .undefined ↔
    op ∈ [0x07, 0x0F, 0x17, 0x1F, 0x27, 0xE3, 0xEB, 0xED, 0xFD, 0xEE, 0xF6, (0xFE : Byte)]) ∧
  (∀ op : Byte, armOf .bit op = .undefined ↔ 0x30 ≤ op.toNat ∧ op.toNat ≤ 0x37) ∧
  (∀ op : Byte, armOf .index op = .undefined ↔
    op ∉ [0x09, 0x19, 0x29, 0x39, 0x21, 0x22, 0x23, 0x2A, 0x2B, 0x34, 0x35, 0x36, 0x46, 0x4E, 0x56, 0x5E, 0x66, 0x6E,
      0x7E, 0x70, 0x71, 0x72, 0x73, 0x74, 0x75, 0x77, 0x86, 0x8E, 0x96, 0x9E, 0xA6, 0xAE, 0xB6, 0xBE, 0xE1, 0xE5, 0xE9,
      0xF9, (0xCB : Byte)]) ∧
  ((List.range 256).filter fun k => (armOf .index (BitVec.ofNat 8 k)).isUndefined).length = 217 ∧
  (∀ d : Byte, ((List.range 256).filter fun k => (armOf (.indexBit d) (BitVec.ofNat 8 k)).isUndefined).length = 225) ∧
  (∀ d op : Byte, (quintuple op).z ≠ 6 ∨ op = 0x36 ↔ armOf (.indexBit d) op = .undefined)

/-! ## The step (41) -/

/-- A STEP RUNS THE DECODED INSTRUCTION. On the REF bus, where the bytes at `PC` decode to `i`, the step is `exec i` at
the state in which all the instruction's bytes have been fetched (that the operand bytes are fetched before the meaning
runs is DEDUCED, log entry 11); then the event `ExecutedInstruction` (41 R180), and no prefix is active any more. The
zero test does not fire, since every arm has a cost (41 R193). -/
def Obligations.StepRunsTheDecodedInstruction : Prop :=
  ∀ (s : State) (i : Instr) (rest : List Byte), s.ready → decode s.codeBytes = .ok (i, rest) →
    WellFormed i = true ∧
    ∃ t, exec i (s.fetched (encode i)) = .next t ∧
      step s = .next ((t.emit .executedInstruction).writePfx .none) ∧
      (s.fetched (encode i)).pc = s.pc + BitVec.ofNat 16 (encode i).length ∧
      (s.fetched (encode i)).cycles = 0 ∧ (s.fetched (encode i)).mem = s.mem

/-- 41 R194, 60 R371: on the REF bus the step ends in `DecodeFailure` exactly where the bytes at `PC` have no arm. The
fault records the bytes fetched and the address of the first; `PC` is past them, their reads are in the trace, `cycles`
is 0, the machine is faulted, and `LATCH` has changed only after 0xDD 0xCB. -/
def Obligations.StepFailsExactlyWithoutArm : Prop :=
  ∀ s : State, s.ready →
    ((∃ left first bytes, step s = .fault (.decodeFailure left first bytes)) ↔
      ∃ e, decode s.codeBytes = .error e) ∧
    ∀ left first bytes, step s = .fault (.decodeFailure left first bytes) →
      first = s.pc ∧ bytes = s.codeBytes.take bytes.length ∧
      (bytes.length = 1 ∨ bytes.length = 2 ∨ bytes.length = 4) ∧
      left.pc = s.pc + BitVec.ofNat 16 bytes.length ∧ left.trace.length = s.trace.length + bytes.length ∧
      left.cycles = 0 ∧ left.faulted = true ∧ left.mem = s.mem ∧ left.af = s.af ∧ left.bc = s.bc ∧ left.de = s.de ∧
      left.hl = s.hl ∧ left.ix = s.ix ∧ left.sp = s.sp ∧ s.sameControl { left with faulted := s.faulted } ∧
      (left.latch = s.latch ∨ bytes.take 2 = [0xDD, 0xCB])

/-- 41 R181: a machine that is not powered, or is faulted, does nothing. 41 R184: the halted step costs 4 and does
nothing else. -/
def Obligations.IdleSteps : Prop :=
  (∀ s : State, s.powered = false ∨ s.faulted = true → step s = .next s) ∧
  ∀ s : State, s.powered = true → s.faulted = false → s.halted = true → s.resetLine = false → s.nmiLine = false →
    (s.intLine && s.iff) = false →
    step s = .next { s with
      cycles := 4, pfx := .none, events := s.events ++ [.executingInstruction, .executedInstruction] }

/-- 41 R193, R194; 70 R425: a powered step that ends in a next state has cost at least 3 and at most 27, on any bus. -/
def Obligations.StepCostBounds : Prop :=
  ∀ s t : State, s.powered = true → s.faulted = false → step s = .next t → 3 ≤ t.cycles ∧ t.cycles ≤ 27

/-- 60 R374: every fatal condition of a step leaves a faulted machine, and a later step changes nothing. -/
def Obligations.FaultStopsTheMachine : Prop :=
  ∀ (s : State) (f : Fault), step s = .fault f →
    (∃ left first bytes, f = .decodeFailure left first bytes ∧ left.faulted = true ∧ left.powered = true ∧
      step left = .next left) ∨
    (∃ left kind a, f = .configurationError left kind a ∧ left.faulted = true ∧ left.powered = true ∧
      step left = .next left)

/-- 20 R65: on the REF bus every complete instruction answers a next state, and the bus is the REF bus after it. On any
bus a complete instruction faults only with `ConfigurationError`, without its cost (60 R372), and none is refused. -/
def Obligations.EveryInstructionRunsOnRefBus : Prop :=
  (∀ (i : Instr) (s : State), WellFormed i = true → s.onRefBus → ∃ t, exec i s = .next t ∧ t.onRefBus) ∧
  (∀ i : Instr, WellFormed i = true → onlyConfigurationError i) ∧
  ∀ (i : Instr) (s : State) (r : Refusal), exec i s ≠ .refused r

/-! ## Invariants -/

/-- Every step keeps the invariant: memory in canonical form (log entry 4: the model's choice), no prefix active between
steps (10 R47). -/
def Obligations.StepKeepsInv : Prop := ∀ s t : State, s.inv → step s = .next t → t.inv

/-- The invariant holds of the state after reset. -/
def Obligations.ResetMeetsInv : Prop := State.reset.inv

/-- 60 R381: "While halted, PC holds the address of the HALT byte", kept by every step on the REF bus; and the bus stays
the REF bus. -/
def Obligations.StepKeepsHaltInv : Prop := ∀ s t : State, s.haltInv → step s = .next t → t.haltInv

/-! ## The flags (10 section 3, 40) -/

/-- 10 R31: every read of `F` returns the stored byte with bit 1 forced to 1 and bits 3 and 5 to 0, whatever was
written; writing `F` and reading it back gives the masked byte, and `A` is unchanged. 30 R115: the conditions, by their
index, read the named flags; a relative jump uses the first four. -/
def Obligations.FlagReadsAndConditions : Prop :=
  (∀ (s : State) (v : Byte),
    s.readF = (loByte s.af ||| 0x02) &&& ~~~0x28 ∧
    s.readF.getLsbD 1 = true ∧ s.readF.getLsbD 3 = false ∧ s.readF.getLsbD 5 = false ∧
    (s.writeF v).readF = (v ||| 0x02) &&& ~~~0x28 ∧ (s.writeF v).readA = s.readA ∧
    loByte (s.readStackReg .af) = s.readF ∧ hiByte (s.readStackReg .af) = s.readA) ∧
  (∀ (f : Byte) (cc : Cond), condHolds f cc =
    [!f.getLsbD 6, f.getLsbD 6, !f.getLsbD 0, f.getLsbD 0, !f.getLsbD 2, f.getLsbD 2, !f.getLsbD 7, f.getLsbD 7].getD
      (codeCond cc) false) ∧
  [RelCond.nz, .z, .nc, .c].map (fun cc => codeCond (relCond cc)) = [0, 1, 2, 3]

/-- 40 R148: the half-carry tables agree with nibble arithmetic for every operand pair and carry or borrow in. -/
def Obligations.HalfCarryTables : Prop :=
  ∀ (before value : Byte) (cin : Bool),
    (hcAdd.getD (halfCarryIndex before value (BitVec.ofNat 8 (before.toNat + value.toNat + cin.toNat))) false = true ↔
      before.toNat % 16 + value.toNat % 16 + cin.toNat > 15) ∧
    (hcSub.getD (halfCarryIndex before value (BitVec.ofInt 8 ((before.toNat : Int) - value.toNat - cin.toNat))) false = true ↔
      before.toNat % 16 < value.toNat % 16 + cin.toNat)

/-- 43 R250, R251 with 40 R155, R149: encoding, effect, cost of `ADD` and `ADC` in every form, on the REF bus: what they
leave in `A` and in each flag, as arithmetic on numbers; the reserved flag bits read as always. The carry in is 0 for
`ADD` and the flag `C` for `ADC`. -/
def Obligations.AddArithmetic : Prop :=
  ∀ (op : AluOp) (src : AluSrc) (i : Instr), op = .add ∨ op = .adc → Form.alu op src = some i →
    decodesTo (bytesOfAlu op src) i ∧ onlyConfigurationError i ∧
    ∀ s : State, s.onRefBus →
      let cin : Nat := if op = .adc then (s.readF.getLsbD 0).toNat else 0
      let total := s.readA.toNat + (s.valueSrc src).toNat + cin
      let signed : Int := s.readA.toInt + (s.valueSrc src).toInt + cin
      ∃ t, exec i s = .next t ∧ t = { (s.afterSrc src) with af := t.af, cycles := s.cycles + costAlu src } ∧
        t.readA.toNat = total % 256 ∧
        (t.readF.getLsbD 7 = true ↔ 128 ≤ total % 256) ∧ (t.readF.getLsbD 6 = true ↔ total % 256 = 0) ∧
        (t.readF.getLsbD 4 = true ↔ s.readA.toNat % 16 + (s.valueSrc src).toNat % 16 + cin > 15) ∧
        (t.readF.getLsbD 2 = true ↔ signed < -128 ∨ 127 < signed) ∧ (t.readF.getLsbD 0 = true ↔ 255 < total)

/-- 43 R252, R253, R257 with 40 R156, R150: encoding, effect, cost of `SUB`, `SBC` and `CP` in every form, on the REF
bus, as arithmetic on numbers; `C` is the borrow. `CP` leaves `A` as it was, with the flags of `SUB`. -/
def Obligations.SubArithmetic : Prop :=
  ∀ (op : AluOp) (src : AluSrc) (i : Instr), op = .sub ∨ op = .sbc ∨ op = .cp → Form.alu op src = some i →
    decodesTo (bytesOfAlu op src) i ∧ onlyConfigurationError i ∧
    ∀ s : State, s.onRefBus →
      let bin : Nat := if op = .sbc then (s.readF.getLsbD 0).toNat else 0
      let total : Int := (s.readA.toNat : Int) - (s.valueSrc src).toNat - bin
      let signed : Int := s.readA.toInt - (s.valueSrc src).toInt - bin
      ∃ t, exec i s = .next t ∧ t = { (s.afterSrc src) with af := t.af, cycles := s.cycles + costAlu src } ∧
        (op ≠ .cp → (t.readA.toNat : Int) = total % 256) ∧ (op = .cp → t.readA = s.readA) ∧
        (t.readF.getLsbD 7 = true ↔ 128 ≤ total % 256) ∧ (t.readF.getLsbD 6 = true ↔ total % 256 = 0) ∧
        (t.readF.getLsbD 4 = true ↔ s.readA.toNat % 16 < (s.valueSrc src).toNat % 16 + bin) ∧
        (t.readF.getLsbD 2 = true ↔ signed < -128 ∨ 127 < signed) ∧ (t.readF.getLsbD 0 = true ↔ total < 0)

/-- 43 R254 to R256 with 40 R157: encoding, effect, cost of `AND`, `XOR`, `OR` in every form, on the REF bus, bit by bit:
`S` and `Z` from the result, `PV` set when the number of 1 bits is even, `H` and `C` cleared. -/
def Obligations.LogicArithmetic : Prop :=
  ∀ (op : AluOp) (src : AluSrc) (i : Instr), op = .and ∨ op = .xor ∨ op = .or → Form.alu op src = some i →
    decodesTo (bytesOfAlu op src) i ∧ onlyConfigurationError i ∧
    ∀ s : State, s.onRefBus →
      ∃ t, exec i s = .next t ∧ t = { (s.afterSrc src) with af := t.af, cycles := s.cycles + costAlu src } ∧
        (∀ k, k < 8 → t.readA.getLsbD k =
          (if op = .and then s.readA.getLsbD k && (s.valueSrc src).getLsbD k
            else if op = .xor then s.readA.getLsbD k ^^ (s.valueSrc src).getLsbD k
            else s.readA.getLsbD k || (s.valueSrc src).getLsbD k)) ∧
        t.readF.getLsbD 7 = t.readA.getLsbD 7 ∧ (t.readF.getLsbD 6 = true ↔ t.readA.toNat = 0) ∧
        (t.readF.getLsbD 2 = true ↔ ((List.range 8).filter fun k => t.readA.getLsbD k).length % 2 = 0) ∧
        t.readF.getLsbD 4 = false ∧ t.readF.getLsbD 0 = false

/-! ## Loads, stores, stack, exchanges, I/O (42) -/

/-- 42 R210, R211: encoding, effect, cost of the 8-bit loads and stores between a register and a register, `(HL)` or
`(IX+d)`. The byte loaded is the register, the byte at `HL`, or the byte at `IX+d`; `H` and `L` stay the plain registers
under the index prefix. `LD r,r'` runs on any bus and has no index-prefixed form. -/
def Obligations.LoadStoreRegister : Prop :=
  (∀ (r r' : Reg8), armOf .index (opcode 1 (codeReg8 r) (codeReg8 r')) = .undefined ∧
    ∀ s : State, exec (Form.load8 r (.reg r')) s = .next ((s.write8 r (s.read8 r')).addCycles 4)) ∧
  (∀ (r : Reg8) (l : Loc),
    decodesTo (bytesByZ 1 (codeReg8 r) l) (Form.load8 r l) ∧ onlyConfigurationError (Form.load8 r l) ∧
    ∀ s : State, s.onRefBus →
      exec (Form.load8 r l) s = .next (((s.afterRead8 l).write8 r (s.value8 l)).addCycles (cost8 4 7 19 l))) ∧
  ∀ (r : Reg8) (d : Byte),
    decodesTo [opcode 1 6 (codeReg8 r)] (Form.storeHL r) ∧ onlyConfigurationError (Form.storeHL r) ∧
    decodesTo [0xDD, opcode 1 6 (codeReg8 r), d] (Form.storeIX d r) ∧ onlyConfigurationError (Form.storeIX d r) ∧
    ∀ s : State, s.onRefBus →
      exec (Form.storeHL r) s = .next ((s.afterWrite s.hl (s.read8 r) .data).addCycles 7) ∧
      exec (Form.storeIX d r) s =
        .next (((s.writeLatch (s.ix + signExt d)).afterWrite (s.ix + signExt d) (s.read8 r) .data).addCycles 19)

/-- 42 R212: encoding, effect, cost of `LD r,n`, `LD (HL),n`, `LD (IX+d),n`. The register forms have no index-prefixed
form. -/
def Obligations.LoadImmediate : Prop :=
  (∀ r : Reg8, armOf .index (opcode 0 (codeReg8 r) 6) = .undefined) ∧
  ∀ (l : Loc) (n : Byte),
    decodesTo (bytesByY 0 6 l ++ [n]) (Form.loadImm n l) ∧ onlyConfigurationError (Form.loadImm n l) ∧
    ∀ s : State, s.onRefBus → exec (Form.loadImm n l) s = .next ((s.afterWrite8 l n).addCycles (cost8 7 10 22 l))

/-- 42 R215 to R218: encoding, effect, cost of the accumulator loads and stores through `BC`, `DE` and `nn`. Only the
forms with `nn` write `LATCH`. None has an index-prefixed form. -/
def Obligations.LoadStoreAccumulator : Prop :=
  (∀ op : Byte, op ∈ [0x0A, 0x1A, 0x02, 0x12, 0x3A, (0x32 : Byte)] → armOf .index op = .undefined) ∧
  ∀ nn : Word,
    decodesTo [0x0A] .ldA_atBC ∧ decodesTo [0x1A] .ldA_atDE ∧ decodesTo [0x02] .ldAtBC_A ∧ decodesTo [0x12] .ldAtDE_A ∧
    decodesTo (0x3A :: wordBytes nn) (.ldA_mem nn) ∧ decodesTo (0x32 :: wordBytes nn) (.ldMem_A nn) ∧
    (∀ i : Instr, i ∈ [.ldA_atBC, .ldA_atDE, .ldAtBC_A, .ldAtDE_A, .ldA_mem nn, .ldMem_A nn] →
      onlyConfigurationError i) ∧
    ∀ s : State, s.onRefBus →
      exec .ldA_atBC s = .next (((s.afterRead s.bc .data).writeA (s.byteAt s.bc)).addCycles 7) ∧
      exec .ldA_atDE s = .next (((s.afterRead s.de .data).writeA (s.byteAt s.de)).addCycles 7) ∧
      exec .ldAtBC_A s = .next ((s.afterWrite s.bc s.readA .data).addCycles 7) ∧
      exec .ldAtDE_A s = .next ((s.afterWrite s.de s.readA .data).addCycles 7) ∧
      exec (.ldA_mem nn) s = .next ((((s.writeLatch nn).afterRead nn .data).writeA (s.byteAt nn)).addCycles 13) ∧
      exec (.ldMem_A nn) s = .next (((s.writeLatch nn).afterWrite nn s.readA .data).addCycles 13)

/-- 42 R220, R224: encoding, effect, cost of `LD rp,nn`, `LD IX,nn`, `LD SP,HL`, `LD SP,IX`, on any bus. `LATCH` is not
written. Under the index prefix only the `IX` form of `LD rp,nn` has an arm. -/
def Obligations.LoadPair : Prop :=
  (∀ op : Byte, op ∈ [0x01, 0x11, (0x31 : Byte)] → armOf .index op = .undefined) ∧
  (∀ (r : Reg16) (nn : Word), decodesTo (bytesOfPair 0 1 (wordBytes nn) r) (Form.loadPair nn r) ∧
    ∀ s : State, exec (Form.loadPair nn r) s = .next ((s.write16 r nn).addCycles (cost16 10 14 r))) ∧
  ∀ x : HLX, decodesTo (bytesOfHLX 0xF9 [] x) (Form.loadSP x) ∧
    ∀ s : State, exec (Form.loadSP x) s = .next ((s.writeSP (s.read16 (hlxReg x))).addCycles (costHLX 6 10 x))

/-- 42 R221, R222 with 20 R70: encoding, effect, cost of the 16-bit loads and stores at `nn`: low byte at `nn` and
first, high byte at `nn+1` modulo 65536. -/
def Obligations.LoadStoreWord : Prop :=
  ∀ (x : HLX) (nn : Word),
    decodesTo (bytesOfHLX 0x2A (wordBytes nn) x) (Form.loadMem16 nn x) ∧ onlyConfigurationError (Form.loadMem16 nn x) ∧
    decodesTo (bytesOfHLX 0x22 (wordBytes nn) x) (Form.storeMem16 nn x) ∧ onlyConfigurationError (Form.storeMem16 nn x) ∧
    ∀ s : State, s.onRefBus →
      exec (Form.loadMem16 nn x) s =
        .next ((((s.writeLatch nn).afterRead16 nn).write16 (hlxReg x) (s.wordAt nn)).addCycles (costHLX 16 20 x)) ∧
      exec (Form.storeMem16 nn x) s =
        .next (((s.writeLatch nn).afterWrite16 nn (s.read16 (hlxReg x))).addCycles (costHLX 16 20 x))

/-- 42 R230 with 20 R71: encoding, effect, cost of `PUSH`. For `AF` the low byte pushed is the masked read of `F`. Under
the index prefix only the `IX` form has an arm. -/
def Obligations.PushPair : Prop :=
  (∀ op : Byte, op ∈ [0xC5, 0xD5, (0xF5 : Byte)] → armOf .index op = .undefined) ∧
  ∀ r : StackReg, decodesTo (bytesOfStack 5 r) (Form.push r) ∧ onlyConfigurationError (Form.push r) ∧
    ∀ s : State, s.onRefBus →
      ∃ t, exec (Form.push r) s = .next t ∧ t = (s.afterPush (s.readStackReg r)).addCycles (costStack 11 15 r) ∧
        t.sp = s.sp - 2 ∧ t.byteAt (s.sp - 1) = hiByte (s.readStackReg r) ∧
        t.byteAt (s.sp - 2) = loByte (s.readStackReg r) ∧
        t.trace = s.trace ++ [⟨.mem, .write, s.sp - 1, hiByte (s.readStackReg r), .data⟩,
          ⟨.mem, .write, s.sp - 2, loByte (s.readStackReg r), .data⟩] ∧
        (r = .af → t.byteAt (s.sp - 1) = s.readA ∧ t.byteAt (s.sp - 2) = s.readF)

/-- 42 R231 with 20 R71: encoding, effect, cost of `POP`. `POP AF` replaces all eight stored bits of `F`. -/
def Obligations.PopPair : Prop :=
  ∀ r : StackReg, decodesTo (bytesOfStack 1 r) (Form.pop r) ∧ onlyConfigurationError (Form.pop r) ∧
    ∀ s : State, s.onRefBus →
      ∃ t, exec (Form.pop r) s = .next t ∧ t = (s.afterPop.writeStackReg r s.stackTop).addCycles (costStack 10 14 r) ∧
        t.sp = s.sp + 2 ∧ (∀ a, t.byteAt a = s.byteAt a) ∧
        (r = .af → t.readA = s.byteAt (s.sp + 1) ∧ loByte t.af = s.byteAt s.sp ∧
          t.readF = (s.byteAt s.sp ||| 0x02) &&& ~~~0x28) ∧
        (r ≠ .af → t.af = s.af) ∧
        s.stackTop.toNat = 256 * (s.byteAt (s.sp + 1)).toNat + (s.byteAt s.sp).toNat

/-- 42 R236, R237: encoding, effect, cost of `EX AF,AF'` and `EXX`, on any bus: contents are exchanged and nothing else
changes; two in a row restore the registers. `EXX` has no index-prefixed form. -/
def Obligations.BankSwitch : Prop :=
  decodesTo [0x08] .exAF ∧ decodesTo [0xD9] .exx ∧ armOf .index 0xD9 = .undefined ∧
  ∀ s : State,
    exec .exAF s = .next { s with af := s.afAlt, afAlt := s.af, cycles := s.cycles + 4 } ∧
    exec .exx s = .next { s with
      bc := s.bcAlt, de := s.deAlt, hl := s.hlAlt, bcAlt := s.bc, deAlt := s.de, hlAlt := s.hl
      cycles := s.cycles + 4 } ∧
    (∀ t, exec .exAF s = .next t → exec .exAF t = .next { s with cycles := s.cycles + 8 }) ∧
    (∀ t, exec .exx s = .next t → exec .exx t = .next { s with cycles := s.cycles + 8 })

/-- 42 R240, R241; 20 R74, R75: encoding, effect, cost of `IN A,(n)` and `OUT (n),A` where the environment makes no move
at the hooks. `IN` loads the environment's answer: the one it has ready, else a free value (log entry 8; the statement
holds for every such value). -/
def Obligations.PortInputOutput : Prop :=
  ∀ (n : Byte) (s : State), s.hooks = [] →
    decodesTo [0xDB, n] (.inA_port n) ∧ decodesTo [0xD3, n] (.outPort_A n) ∧
    exec (.inA_port n) s =
      .next (((s.afterPortRead n (ioAnswer n s)).writeA (ioAnswer n s)).addCycles 11) ∧
    (∀ v rest, s.portIn = v :: rest → ioAnswer n s = v) ∧
    exec (.outPort_A n) s = .next ((s.afterPortWrite n s.readA).addCycles 11) ∧
    neverFaults (.inA_port n) ∧ neverFaults (.outPort_A n)

/-! ## Arithmetic and logic (43) -/

/-- 43 section 1: encoding, effect, cost of all eight accumulator operations in every form. There is a form for every
operand but register `C` (30 R117), and only the `(IX+d)` forms have an arm under the index prefix. -/
def Obligations.AccumulatorOperation : Prop :=
  ∀ (op : AluOp) (src : AluSrc),
    (Form.alu op src = none ↔ src = .loc (.reg .c)) ∧
    (∀ z, z ≠ 6 → z < 8 → armOf .index (opcode 2 (codeAlu op) z) = .undefined) ∧
    ∀ i, Form.alu op src = some i → decodesTo (bytesOfAlu op src) i ∧
      ∀ s : State, s.onRefBus →
        exec i s = .next ((((s.afterSrc src).writeA (aluResult op s.readF s.readA (s.valueSrc src)).1).writeF
          (aluResult op s.readF s.readA (s.valueSrc src)).2).addCycles (costAlu src))

/-- 43 R262, R263: encoding, effect, cost of the 8-bit `INC` and `DEC` in every form, on the REF bus; a memory form
reads, then writes the same address. `r` is the byte written and `g` what is written to `F`. `PV` is set only for 0x7F
up and 0x80 down, `H` exactly when the low nibble is 0xF up and 0x0 down, `C` is unchanged. -/
def Obligations.IncDecOperand : Prop :=
  ∀ l : Loc,
    decodesTo (bytesByY 0 4 l) (Form.inc8 l) ∧ onlyConfigurationError (Form.inc8 l) ∧
    decodesTo (bytesByY 0 5 l) (Form.dec8 l) ∧ onlyConfigurationError (Form.dec8 l) ∧
    ∀ s : State, s.onRefBus →
      (∃ r g t, exec (Form.inc8 l) s = .next t ∧
        t = (((s.afterRead8 l).afterWrite8 l r).writeF g).addCycles (cost8 4 11 23 l) ∧
        r.toNat = ((s.value8 l).toNat + 1) % 256 ∧ t.readF.getLsbD 7 = r.getLsbD 7 ∧
        (t.readF.getLsbD 6 = true ↔ s.value8 l = 0xFF) ∧ (t.readF.getLsbD 4 = true ↔ (s.value8 l).toNat % 16 = 15) ∧
        (t.readF.getLsbD 2 = true ↔ s.value8 l = 0x7F) ∧ t.readF.getLsbD 0 = s.readF.getLsbD 0) ∧
      ∃ r g t, exec (Form.dec8 l) s = .next t ∧
        t = (((s.afterRead8 l).afterWrite8 l r).writeF g).addCycles (cost8 4 11 23 l) ∧
        r.toNat = ((s.value8 l).toNat + 255) % 256 ∧ t.readF.getLsbD 7 = r.getLsbD 7 ∧
        (t.readF.getLsbD 6 = true ↔ s.value8 l = 0x01) ∧ (t.readF.getLsbD 4 = true ↔ (s.value8 l).toNat % 16 = 0) ∧
        (t.readF.getLsbD 2 = true ↔ s.value8 l = 0x80) ∧ t.readF.getLsbD 0 = s.readF.getLsbD 0

/-- 43 R265 to R267: encoding, effect, cost of `CPL`, `SCF`, `CCF`, on any bus. -/
def Obligations.ComplementAndCarry : Prop :=
  decodesTo [0x2F] .cpl ∧ decodesTo [0x37] .scf ∧ decodesTo [0x3F] .ccf ∧
  ∀ s : State,
    (exec .cpl s = .next ((s.writeA (~~~s.readA)).addCycles 4)) ∧
    (∃ t, exec .scf s = .next t ∧ t = (s.writeF (s.readF ||| 0x01)).addCycles 4) ∧
    (∃ t, exec .ccf s = .next t ∧ t = (s.writeF (s.readF ^^^ 0x01)).addCycles 4)

/-- 43 R270, R271: encoding, effect, cost of the 16-bit addition, on any bus: the sum modulo 65536, `C` the carry out of
bit 15, the other flags as they read before. -/
def Obligations.AddPair : Prop :=
  ∀ (x : HLX) (p : Pair),
    decodesTo (bytesOfHLX (opcode 0 (2 * codePair p + 1) 1) [] x) (Form.add16 x p) ∧
    ∀ s : State, ∃ t, exec (Form.add16 x p) s = .next t ∧
      (t.read16 (hlxReg x)).toNat = ((s.read16 (hlxReg x)).toNat + (s.read16 (pairReg x p)).toNat) % 65536 ∧
      (t.readF.getLsbD 0 = true ↔ 65535 < (s.read16 (hlxReg x)).toNat + (s.read16 (pairReg x p)).toNat) ∧
      (∀ k, 1 ≤ k → t.readF.getLsbD k = s.readF.getLsbD k) ∧
      t = { s.write16 (hlxReg x) (t.read16 (hlxReg x)) with
            af := t.af, cycles := s.cycles + costHLX 11 15 x } ∧
      t.readA = s.readA

/-- 43 R272, R273: encoding, effect, cost of the 16-bit increment and decrement, on any bus; no flag records a wrap. -/
def Obligations.IncDecPair : Prop :=
  ∀ r : Reg16,
    decodesTo (bytesOfPair 0 3 [] r) (Form.inc16 r) ∧ decodesTo (bytesOfPair 1 3 [] r) (Form.dec16 r) ∧
    (∀ op : Byte, op ∈ [0x03, 0x13, 0x33, 0x0B, 0x1B, (0x3B : Byte)] → armOf .index op = .undefined) ∧
    ∀ s : State,
      exec (Form.inc16 r) s = .next ((s.write16 r (s.read16 r + 1)).addCycles (cost16 6 10 r)) ∧
      exec (Form.dec16 r) s = .next ((s.write16 r (s.read16 r - 1)).addCycles (cost16 6 10 r))

/-! ## Rotates, shifts, bits (45) -/

/-- 45 R290 to R296: encoding, effect, cost of the rotates and shifts in every form, on the REF bus, bit by bit: `r` is
the byte written, `c` the bit that leaves, `g` what is written to `F`; the flags are those of 45 section 1. -/
def Obligations.RotateOperand : Prop :=
  ∀ (op : RotOp) (l : Loc),
    decodesTo (bytesOfBit 0 (codeRot op) l) (Form.rot op l) ∧ onlyConfigurationError (Form.rot op l) ∧
    ∀ s : State, s.onRefBus →
      let v := s.value8 l
      let cold := s.readF.getLsbD 0
      ∃ r c g t, exec (Form.rot op l) s = .next t ∧
        t = (((s.afterRead8 l).afterWrite8 l r).writeF g).addCycles (cost8 8 15 27 l) ∧
        (op = .rlc ∨ op = .rl ∨ op = .sla → (∀ k, k < 7 → r.getLsbD (k + 1) = v.getLsbD k) ∧ c = v.getLsbD 7 ∧
          r.getLsbD 0 = (if op = .rlc then v.getLsbD 7 else if op = .rl then cold else false)) ∧
        (op = .rrc ∨ op = .rr ∨ op = .sra ∨ op = .srl →
          (∀ k, k < 7 → r.getLsbD k = v.getLsbD (k + 1)) ∧ c = v.getLsbD 0 ∧
          r.getLsbD 7 = (if op = .rrc then v.getLsbD 0 else if op = .rr then cold
            else if op = .sra then v.getLsbD 7 else false)) ∧
        t.readF.getLsbD 7 = r.getLsbD 7 ∧ (t.readF.getLsbD 6 = true ↔ r.toNat = 0) ∧
        (t.readF.getLsbD 2 = true ↔ ((List.range 8).filter fun k => r.getLsbD k).length % 2 = 0) ∧
        t.readF.getLsbD 4 = false ∧ t.readF.getLsbD 0 = c

/-- 45 R300: encoding, effect, cost of `BIT` in every form: `Z` is the complement of the bit, the other flags read as
before, the operand is read and not written. -/
def Obligations.BitTest : Prop :=
  ∀ (y : Oct) (l : Loc),
    decodesTo (bytesOfBit 1 y.toNat l) (Form.bit y l) ∧ onlyConfigurationError (Form.bit y l) ∧
    ∀ s : State, s.onRefBus →
      ∃ t g, exec (Form.bit y l) s = .next t ∧ t = ((s.afterRead8 l).writeF g).addCycles (cost8 8 12 24 l) ∧
        t.readF.getLsbD 6 = !(s.value8 l).getLsbD y.toNat ∧
        ∀ k, k ≠ 6 → t.readF.getLsbD k = s.readF.getLsbD k

/-- 45 R301, R302: encoding, effect, cost of `RES` and `SET` in every form: one bit of the operand changes, no flag; the
write is always made. -/
def Obligations.BitResetSet : Prop :=
  ∀ (y : Oct) (l : Loc),
    decodesTo (bytesOfBit 2 y.toNat l) (Form.res y l) ∧ onlyConfigurationError (Form.res y l) ∧
    decodesTo (bytesOfBit 3 y.toNat l) (Form.set y l) ∧ onlyConfigurationError (Form.set y l) ∧
    ∀ s : State, s.onRefBus →
      (∃ v, exec (Form.res y l) s = .next (((s.afterRead8 l).afterWrite8 l v).addCycles (cost8 8 15 27 l)) ∧
        ∀ k, k < 8 → v.getLsbD k = if k = y.toNat then false else (s.value8 l).getLsbD k) ∧
      ∃ v, exec (Form.set y l) s = .next (((s.afterRead8 l).afterWrite8 l v).addCycles (cost8 8 15 27 l)) ∧
        ∀ k, k < 8 → v.getLsbD k = if k = y.toNat then true else (s.value8 l).getLsbD k

/-! ## Control transfer (46) -/

/-- 46 R310 to R312: encoding, effect, cost of the jumps, on any bus; no memory is read, no flag changes. -/
def Obligations.Jumps : Prop :=
  ∀ (nn : Word) (cc : Cond) (x : HLX),
    decodesTo (0xC3 :: wordBytes nn) (.jp nn) ∧
    decodesTo (opcode 3 (codeCond cc) 2 :: wordBytes nn) (Form.jumpCond nn cc) ∧
    decodesTo (bytesOfHLX 0xE9 [] x) (Form.jumpReg x) ∧
    ∀ s : State,
      exec (.jp nn) s = .next { s with pc := nn, latch := nn, cycles := s.cycles + 10 } ∧
      exec (Form.jumpCond nn cc) s = .next { s with
        pc := if condHolds s.readF cc then nn else s.pc, latch := nn, cycles := s.cycles + 10 } ∧
      exec (Form.jumpReg x) s = .next { s with pc := s.read16 (hlxReg x), cycles := s.cycles + costHLX 4 8 x }

/-- 46 R314 to R316: encoding, effect, cost of the relative jumps, on any bus. `PC` is past the displacement byte; the
target is `PC` plus the displacement read as two's complement. `DJNZ` touches no flag. -/
def Obligations.RelativeJumps : Prop :=
  ∀ (d : Byte) (cc : RelCond),
    decodesTo [0x18, d] (.jr d) ∧ decodesTo [0x10, d] (.djnz d) ∧
    decodesTo [opcode 0 (4 + codeCond (relCond cc)) 0, d] (Form.jumpRelCond d cc) ∧
    ∀ s : State,
      let target := s.pc + BitVec.ofInt 16 d.toInt
      exec (.jr d) s = .next { s with pc := target, latch := target, cycles := s.cycles + 12 } ∧
      exec (Form.jumpRelCond d cc) s =
        (if condHolds s.readF (relCond cc) then
          .next { s with pc := target, latch := target, cycles := s.cycles + 12 }
         else .next { s with cycles := s.cycles + 7 }) ∧
      exec (.djnz d) s =
        (if s.read8 .b = 1 then .next ((s.write8 .b 0).addCycles 8)
         else .next { s.write8 .b (s.read8 .b - 1) with
           pc := target, latch := target, cycles := s.cycles + 13 })

/-- 46 R320, R321 with 20 R71: encoding, effect, cost of the calls. The address pushed is `PC`, past the operand
bytes; not taken, on any bus, no stack transaction is made. -/
def Obligations.Calls : Prop :=
  ∀ (nn : Word) (cc : Cond),
    decodesTo (0xCD :: wordBytes nn) (.call nn) ∧ onlyConfigurationError (.call nn) ∧
    decodesTo (opcode 3 (codeCond cc) 4 :: wordBytes nn) (Form.callCond nn cc) ∧
    onlyConfigurationError (Form.callCond nn cc) ∧
    ∀ s : State,
      (condHolds s.readF cc = false → exec (Form.callCond nn cc) s = .next ((s.writeLatch nn).addCycles 10)) ∧
      (s.onRefBus →
        exec (.call nn) s = .next ((((s.writeLatch nn).afterPush s.pc).writePC nn).addCycles 17) ∧
        (condHolds s.readF cc = true →
          exec (Form.callCond nn cc) s = .next ((((s.writeLatch nn).afterPush s.pc).writePC nn).addCycles 17)))

/-- 46 R324, R325; 47 R348; 60 R389: encoding, effect, cost of the returns. `RET` leaves `IFF` alone; `RETI` pops and
sets it. A return not taken makes no transaction, on any bus. -/
def Obligations.Returns : Prop :=
  ∀ cc : Cond,
    decodesTo [0xC9] .ret ∧ decodesTo [0xE6] .reti ∧ decodesTo [opcode 3 (codeCond cc) 0] (Form.retCond cc) ∧
    onlyConfigurationError .ret ∧ onlyConfigurationError .reti ∧ onlyConfigurationError (Form.retCond cc) ∧
    ∀ s : State,
      (condHolds s.readF cc = false → exec (Form.retCond cc) s = .next (s.addCycles 5)) ∧
      (s.onRefBus →
        exec .ret s = .next ((s.afterPop.writePC s.stackTop).addCycles 10) ∧
        exec .reti s = .next (((s.afterPop.writePC s.stackTop).writeIFF true).addCycles 10) ∧
        (condHolds s.readF cc = true →
          exec (Form.retCond cc) s = .next ((s.afterPop.writePC s.stackTop).addCycles 11)))

/-- 46 R330: encoding, effect, cost of `RST`: a one-byte call to `y*8`; `LATCH` is not written. -/
def Obligations.Restart : Prop :=
  ∀ y : Oct, decodesTo [opcode 3 y.toNat 7] (Form.restart y) ∧ onlyConfigurationError (Form.restart y) ∧
    ∀ s : State, s.onRefBus →
      ∃ t, exec (Form.restart y) s = .next t ∧
        t = ((s.afterPush s.pc).writePC (BitVec.ofNat 16 (y.toNat * 8))).addCycles 11 ∧
        t.byteAt (s.sp - 1) = hiByte s.pc ∧ t.byteAt (s.sp - 2) = loByte s.pc ∧ t.sp = s.sp - 2 ∧ t.latch = s.latch

/-! ## System (47) and prefixes (30 section 5) -/

/-- 47 R340 to R347: encoding, effect, cost of `NOP`, `HALT`, `DI`, `EI`, `IM m`, `LD I,A`, on any bus, in the one mode
there is (60 R395). -/
def Obligations.SystemInstructions : Prop :=
  decodesTo [0x00] .nop ∧ decodesTo [0x76] .halt ∧ decodesTo [0xF3] .di ∧ decodesTo [0xFB] .ei ∧
  decodesTo [0xDE] .ldI_A ∧
  decodesTo [0xC6] (Form.intMode .im0) ∧ decodesTo [0xCE] (Form.intMode .im1) ∧ decodesTo [0xD6] (Form.intMode .im2) ∧
  ∀ s : State,
    exec .nop s = .next { s with cycles := s.cycles + 4 } ∧
    exec .halt s = .next { s with pc := s.pc - 1, halted := true, cycles := s.cycles + 4 } ∧
    exec .di s = .next { s with iff := false, cycles := s.cycles + 4 } ∧
    exec .ei s = .next { s with iff := true, cycles := s.cycles + 4 } ∧
    exec .ldI_A s = .next { s with i := s.readA, cycles := s.cycles + 4 } ∧
    ∀ m : IntMode, exec (Form.intMode m) s = .next { s with im := m, cycles := s.cycles + 4 }

/-- 30 R121, R122; 41 R185: the engine's act on a prefix byte, as the two prefix rows' meaning (log entry 12). 0xDD with
no prefix active sets the index prefix; while it is active it is a `DecodeFailure`. 0xCB with no prefix active selects
the bit table; under the index prefix, on the REF bus, it fetches the displacement and leaves `IX+d` in `LATCH`. Neither
has a cost of its own (47 R349). -/
def Obligations.PrefixBytes : Prop :=
  ∀ s : State,
    (s.pfx = .none → exec .indexPrefix s = .next { s with pfx := .index }) ∧
    (s.pfx = .index → ∃ left, exec .indexPrefix s = .fault (.decodeFailure left (s.pc - 2) [0xDD, 0xDD])) ∧
    (s.pfx = .none → exec .bitPrefix s = .next { s with pfx := .bit }) ∧
    (s.pfx = .index → s.onRefBus →
      exec .bitPrefix s = .next (((s.afterFetch .fetchOperand).writeLatch (s.ix + signExt (s.byteAt s.pc))).writePfx
        (.indexBit (s.byteAt s.pc))))

/-! ## Frames: what an instruction leaves unchanged -/

/-- The loads into an 8-bit register, the accumulator operations, `INC`, `DEC`, rotate, shift, `BIT`, `RES`, `SET` on a
register or, for `BIT` and the accumulator operations, any operand: every 8-bit register but the destination, `IX`,
`SP`, `PC`, the control state and every byte of memory are unchanged. `dst` is the destination register, if any: the
operand of `INC`, `DEC`, rotate, shift, `RES`, `SET`; `A` for an accumulator operation. `BIT` has none. -/
def Obligations.FrameNoStore : Prop :=
  ∀ (i : Instr) (dst : Option Reg8),
    ((∃ r l, i = Form.load8 r l ∧ dst = some r) ∨ (∃ r n, i = Form.loadImm n (.reg r) ∧ dst = some r) ∨
     (∃ op src, Form.alu op src = some i ∧ dst = some .a) ∨
     (∃ r, (i = Form.inc8 (.reg r) ∨ i = Form.dec8 (.reg r)) ∧ dst = some r) ∨
     (∃ op r, i = Form.rot op (.reg r) ∧ dst = some r) ∨ (∃ y l, i = Form.bit y l ∧ dst = none) ∨
     (∃ y r, (i = Form.res y (.reg r) ∨ i = Form.set y (.reg r)) ∧ dst = some r)) →
    ∀ s t : State, s.onRefBus → exec i s = .next t →
      (∀ r, dst ≠ some r → t.read8 r = s.read8 r) ∧ t.ix = s.ix ∧ t.sp = s.sp ∧ t.pc = s.pc ∧ s.sameControl t ∧
      (∀ a, t.byteAt a = s.byteAt a) ∧
      ((∃ r l, i = Form.load8 r l) ∨ (∃ r n, i = Form.loadImm n (.reg r)) ∨
        (∃ y r, i = Form.res y (.reg r) ∨ i = Form.set y (.reg r)) → loByte t.af = loByte s.af)

/-- The forms that store one byte: `LD (HL),r`, `LD (IX+d),r`, `LD (HL),n`, `LD (IX+d),n`, and `INC`, `DEC`, rotate,
shift, `RES`, `SET` on memory. The address stored to is the operand's (`address8`); every other byte is unchanged, and
so are the registers and the control state; loads, `RES` and `SET` change no flag. -/
def Obligations.FrameStoreByte : Prop :=
  ∀ (i : Instr) (l : Loc),
    ((∃ r, i = Form.storeHL r ∧ l = .atHL) ∨ (∃ r d, i = Form.storeIX d r ∧ l = .atIX d) ∨ (∃ n, i = Form.loadImm n l) ∨
     i = Form.inc8 l ∨ i = Form.dec8 l ∨ (∃ op, i = Form.rot op l) ∨ (∃ y, i = Form.res y l ∨ i = Form.set y l)) →
    ∀ (s t : State) (a : Word), s.onRefBus → s.address8 l = some a → exec i s = .next t →
      (∀ b, b ≠ a → t.byteAt b = s.byteAt b) ∧ (∀ r, t.read8 r = s.read8 r) ∧
      t.ix = s.ix ∧ t.sp = s.sp ∧ t.pc = s.pc ∧ s.sameControl t ∧
      (t.readF = s.readF ∨ i = Form.inc8 l ∨ i = Form.dec8 l ∨ ∃ op, i = Form.rot op l)

/-- The stores of `A` and of a word, `PUSH`, the calls and `RST`: every byte outside the one or two stored, every
general register, the flags and the control state are unchanged. The bytes stored are those of `LD (BC),A`, `LD (DE),A`,
`LD (nn),A`, `LD (nn),HL` and `LD (nn),IX` at `BC`, `DE`, `nn` (and `nn+1`), and the two below `SP`. -/
def Obligations.FrameStoreWord : Prop :=
  ∀ (i : Instr) (s t : State) (stored : List Word),
    ((i = .ldAtBC_A ∧ stored = [s.bc]) ∨ (i = .ldAtDE_A ∧ stored = [s.de]) ∨
     (∃ nn, i = .ldMem_A nn ∧ stored = [nn]) ∨ (∃ x nn, i = Form.storeMem16 nn x ∧ stored = [nn, nn + 1]) ∨
     ((∃ r, i = Form.push r) ∨ (∃ nn, i = .call nn) ∨ (∃ nn cc, i = Form.callCond nn cc) ∨ (∃ y, i = Form.restart y)) ∧
       stored = [s.sp + 0xFFFF, s.sp + 0xFFFE]) →
    s.onRefBus → exec i s = .next t →
      (∀ b, b ∉ stored → t.byteAt b = s.byteAt b) ∧ t.af = s.af ∧ t.bc = s.bc ∧ t.de = s.de ∧ t.hl = s.hl ∧
      t.ix = s.ix ∧ s.sameControl t ∧ (t.sp = s.sp ∨ (t.sp = s.sp + 0xFFFE ∧ stored = [s.sp + 0xFFFF, s.sp + 0xFFFE]))

/-- `LD rp,nn`, `LD HL,(nn)`, `LD IX,(nn)`, `LD SP,HL`, `LD SP,IX`, `LD A,(BC)`, `LD A,(DE)`, `LD A,(nn)`, `POP`, the
returns, `ADD`, `INC`, `DEC` on 16 bits, `IN`, `OUT`, `CPL`, `SCF`, `CCF`, the jumps: no byte of memory changes; the
control state does not, but for `IFF` in `RETI`; each 16-bit register is unchanged but those named. -/
def Obligations.FrameWordRegisters : Prop :=
  ∀ (i : Instr) (written : List Reg16) (writesAF : Bool),
    ((∃ r nn, i = Form.loadPair nn r ∧ written = [r] ∧ writesAF = false) ∨
     (∃ x nn, i = Form.loadMem16 nn x ∧ written = [hlxReg x] ∧ writesAF = false) ∨
     (∃ x, i = Form.loadSP x ∧ written = [.sp] ∧ writesAF = false) ∨
     ((i = .ldA_atBC ∨ i = .ldA_atDE ∨ (∃ nn, i = .ldA_mem nn) ∨ (∃ n, i = .inA_port n) ∨ i = .cpl ∨ i = .scf ∨ i = .ccf) ∧
       written = [] ∧ writesAF = true) ∨
     (i = Form.pop .bc ∧ written = [.bc, .sp] ∧ writesAF = false) ∨
     (i = Form.pop .de ∧ written = [.de, .sp] ∧ writesAF = false) ∨
     (i = Form.pop .hl ∧ written = [.hl, .sp] ∧ writesAF = false) ∨
     (i = Form.pop .ix ∧ written = [.ix, .sp] ∧ writesAF = false) ∨
     (i = Form.pop .af ∧ written = [.sp] ∧ writesAF = true) ∨
     ((i = .ret ∨ i = .reti ∨ ∃ cc, i = Form.retCond cc) ∧ written = [.sp] ∧ writesAF = false) ∨
     (∃ x p, i = Form.add16 x p ∧ written = [hlxReg x] ∧ writesAF = true) ∨
     (∃ r, (i = Form.inc16 r ∨ i = Form.dec16 r) ∧ written = [r] ∧ writesAF = false) ∨
     (((∃ n, i = .outPort_A n) ∨ (∃ nn, i = .jp nn) ∨ (∃ nn cc, i = Form.jumpCond nn cc) ∨ (∃ x, i = Form.jumpReg x) ∨
        (∃ d, i = .jr d) ∨ ∃ d cc, i = Form.jumpRelCond d cc) ∧ written = [] ∧ writesAF = false) ∨
     (∃ d, i = .djnz d ∧ written = [.bc] ∧ writesAF = false)) →
    ∀ s t : State, s.onRefBus → exec i s = .next t →
      (∀ r, r ∉ written → t.read16 r = s.read16 r) ∧ (writesAF = false → t.af = s.af) ∧
      (∀ a, t.byteAt a = s.byteAt a) ∧ s.sameControl { t with iff := s.iff } ∧ (i ≠ .reti → t.iff = s.iff)

/-! ## The bus (20) -/

/-- 20 R70: 16-bit accesses on the REF bus are two transactions, low byte at the lower address and first, wrapping
modulo 65536; a 16-bit store followed by 8-bit reads sees the low byte at the address and the high byte at the next; a
16-bit immediate has the same order. -/
def Obligations.WordsAreLittleEndian : Prop :=
  ∀ (a w : Word) (g : Tag) (s : State), s.onRefBus →
    memRead16 a g s = .ok (joinBytes (s.byteAt (a + 1)) (s.byteAt a)) ((s.afterRead a g).afterRead (a + 1) g) ∧
    (∃ t, memWrite16 a w g s = .ok () t ∧ t.byteAt a = loByte w ∧ t.byteAt (a + 1) = hiByte w ∧
      (∀ b, b ≠ a → b ≠ a + 1 → t.byteAt b = s.byteAt b) ∧
      t.trace = s.trace ++ [⟨.mem, .write, a, loByte w, g⟩, ⟨.mem, .write, a + 1, hiByte w, g⟩]) ∧
    ∃ t, fetchWord s = .ok (joinBytes (s.byteAt (s.pc + 1)) (s.byteAt s.pc)) t ∧ t.pc = s.pc + 2

/-- 20 R71: the stack on the REF bus. `Push16(w)` writes the high byte at `s-1`, then the low byte at `s-2`, leaves
`SP = s-2` and every other byte unchanged; `Pop16()` reads the low byte at `SP`, then the high byte at `SP+1`, and leaves
`SP` two higher. A pop after a push gives `w` back and restores `SP`. -/
def Obligations.StackIsDescending : Prop :=
  ∀ (w : Word) (s : State), s.onRefBus →
    (∃ u, pop16 s = .ok (joinBytes (s.byteAt (s.sp + 1)) (s.byteAt s.sp)) u ∧ u.sp = s.sp + 2 ∧
      (∀ b, u.byteAt b = s.byteAt b) ∧
      u.trace = s.trace ++ [⟨.mem, .read, s.sp, s.byteAt s.sp, .data⟩,
        ⟨.mem, .read, s.sp + 1, s.byteAt (s.sp + 1), .data⟩]) ∧
    ∃ t, push16 w s = .ok () t ∧ t.sp = s.sp - 2 ∧ t.byteAt (s.sp - 1) = hiByte w ∧ t.byteAt (s.sp - 2) = loByte w ∧
      (∀ b, b ≠ s.sp - 1 → b ≠ s.sp - 2 → t.byteAt b = s.byteAt b) ∧
      t.trace = s.trace ++ [⟨.mem, .write, s.sp - 1, hiByte w, .data⟩, ⟨.mem, .write, s.sp - 2, loByte w, .data⟩] ∧
      ∃ u, pop16 t = .ok w u ∧ u.sp = s.sp

/-- 20 R63, R66 to R68 and 60 R370: on any bus, with `MAP` as it is after the "before" hook, an address no region maps, a
write to a `ReadOnly` region and an offset outside the backing store raise `ConfigurationError`. No trace record is
appended, and no byte is stored. The model's choices in it: a region is a window of addresses and its store a slice of
one array (log entries 5 and 6, DESIGN CHOICE), and a write to a `ReadOnly` region records `read_only` even where the
offset is out of bounds (log entry 15, DEDUCED). -/
def Obligations.ConfigurationErrors : Prop :=
  ∀ (a : Word) (v : Byte) (g : Tag) (s : State),
    let s1 := (s.writeAddress a).hook (.reading a)
    let s2 := ((s.writeAddress a).writeData v).hook (.writing a v)
    (mapAddr s1.map a = none → ∃ left, memRead a g s = .fault (.configurationError left .unmapped a) ∧
      left.faulted = true ∧ left.trace = s.trace ∧ left.mem = s1.mem) ∧
    (∀ r, mapAddr s1.map a = some r → r.length ≤ ((a - r.base) &&& r.mask).toNat →
      ∃ left, memRead a g s = .fault (.configurationError left .outOfBounds a) ∧
        left.faulted = true ∧ left.trace = s.trace ∧ left.mem = s1.mem) ∧
    (mapAddr s2.map a = none → ∃ left, memWrite a v g s = .fault (.configurationError left .unmapped a) ∧
      left.faulted = true ∧ left.trace = s.trace ∧ left.mem = s2.mem) ∧
    (∀ r, mapAddr s2.map a = some r →
      (r.access = .readOnly → ∃ left, memWrite a v g s = .fault (.configurationError left .readOnly a) ∧
        left.faulted = true ∧ left.trace = s.trace ∧ left.mem = s2.mem) ∧
      (r.access = .readWrite → r.length ≤ ((a - r.base) &&& r.mask).toNat →
        ∃ left, memWrite a v g s = .fault (.configurationError left .outOfBounds a) ∧
          left.faulted = true ∧ left.trace = s.trace ∧ left.mem = s2.mem))

/-- 20 R78: on any bus, whatever the environment does at the hooks, a transaction changes no register, flag, `LATCH` or
control bit of the block. -/
def Obligations.TransactionsKeepTheBlock : Prop :=
  ∀ (a : Word) (v p : Byte) (g : Tag) (s t : State),
    (∀ u, memRead a g s = .ok u t → s.sameBlock t) ∧ (memWrite a v g s = .ok () t → s.sameBlock t) ∧
    (∀ u, ioRead p s = .ok u t → s.sameBlock t) ∧ (ioWrite p v s = .ok () t → s.sameBlock t)

/-! ## Reset, interrupts and power (60, 70) -/

/-- 70 R413: the step that services a reset, on any bus. It makes no transaction and pushes nothing. -/
def Obligations.ResetService : Prop :=
  ∀ s : State, s.powered = true → s.faulted = false → s.resetLine = true →
    step s = .next { s with
      resetLine := false, halted := false, pc := 0x0000, sp := 0xFFFF, af := joinBytes s.readA 0x00
      iff := false, im := .im0, cycles := 3, pfx := .none
      events := s.events ++ [.executingInstruction, .executedInstruction] }

/-- 60 R382 with R381, R388 and 20 R71: the step that services `NMI` on the REF bus: the line is lowered, a halted
machine is left past its `HALT`, the return address is pushed, `PC` is 0x0066, the cost 11; nothing else changes but the
latches and the logs. -/
def Obligations.NmiService : Prop :=
  ∀ s : State, s.onRefBus → s.powered = true → s.faulted = false → s.resetLine = false → s.nmiLine = true →
    ∃ t, step s = .next t ∧ t.pc = 0x0066 ∧ t.sp = s.sp - 2 ∧ t.cycles = 11 ∧ t.halted = false ∧ t.nmiLine = false ∧
      t.byteAt (s.sp - 1) = hiByte s.returnAddress ∧ t.byteAt (s.sp - 2) = loByte s.returnAddress ∧
      (∀ a, a ≠ s.sp - 1 → a ≠ s.sp - 2 → t.byteAt a = s.byteAt a) ∧
      t.trace = s.trace ++ [⟨.mem, .write, s.sp - 1, hiByte s.returnAddress, .data⟩,
        ⟨.mem, .write, s.sp - 2, loByte s.returnAddress, .data⟩] ∧
      t.af = s.af ∧ t.bc = s.bc ∧ t.de = s.de ∧ t.hl = s.hl ∧ t.ix = s.ix ∧ t.latch = s.latch ∧
      s.sameControl { t with halted := s.halted, nmiLine := s.nmiLine }

/-- 60 R383 to R386 with R381, R388: the step that services `INT` on the REF bus, in the three modes: `IFF` is cleared,
the return address pushed, and `PC` is the restart target in bits 5 to 3 of `INT_DATA`, or 0x0038, or the word at
`{I, INT_DATA}` as memory holds it after the push. -/
def Obligations.IntService : Prop :=
  ∀ s : State, s.onRefBus → s.powered = true → s.faulted = false → s.resetLine = false → s.nmiLine = false →
    s.intLine = true → s.iff = true →
    ∃ t, step s = .next t ∧ t.iff = false ∧ t.halted = false ∧ t.intLine = true ∧ t.sp = s.sp - 2 ∧
      t.byteAt (s.sp - 1) = hiByte s.returnAddress ∧ t.byteAt (s.sp - 2) = loByte s.returnAddress ∧
      (∀ a, a ≠ s.sp - 1 → a ≠ s.sp - 2 → t.byteAt a = s.byteAt a) ∧
      t.af = s.af ∧ t.bc = s.bc ∧ t.de = s.de ∧ t.hl = s.hl ∧ t.ix = s.ix ∧
      s.sameControl { t with halted := s.halted, iff := s.iff } ∧
      let pushes : List Transaction := [⟨.mem, .write, s.sp - 1, hiByte s.returnAddress, .data⟩,
        ⟨.mem, .write, s.sp - 2, loByte s.returnAddress, .data⟩]
      let entry := joinBytes s.i s.intData
      (s.im = .im0 → t.pc = BitVec.ofNat 16 (8 * (s.intData.toNat / 8 % 8)) ∧ t.cycles = 13 ∧ t.latch = s.latch ∧
        t.trace = s.trace ++ pushes) ∧
      (s.im = .im1 → t.pc = 0x0038 ∧ t.cycles = 13 ∧ t.latch = s.latch ∧ t.trace = s.trace ++ pushes) ∧
      (s.im = .im2 → t.pc = t.wordAt entry ∧ t.cycles = 19 ∧ t.latch = entry ∧
        t.trace = s.trace ++ pushes ++ [⟨.mem, .read, entry, t.byteAt entry, .data⟩,
          ⟨.mem, .read, entry + 1, t.byteAt (entry + 1), .data⟩])

/-- 47 R345, 70 R423: `EI` has no delay. After a step that runs `EI` on the REF bus with `INT` raised, the very next step
services the interrupt, with the address after the `EI` as the return address. -/
def Obligations.EnableTakesEffectAtOnce : Prop :=
  ∀ s : State, s.ready → s.byteAt s.pc = 0xFB → s.intLine = true →
    ∃ t u, step s = .next t ∧ t.iff = true ∧ t.pc = s.pc + 1 ∧ step t = .next u ∧ u.iff = false ∧
      u.sp = s.sp - 2 ∧ u.byteAt (s.sp - 1) = hiByte (s.pc + 1) ∧ u.byteAt (s.sp - 2) = loByte (s.pc + 1)

/-- 70 R410, R411: powerOn and powerOff. The registers the rule leaves unspecified are free values (log entry 9):
nothing is said of them. -/
def Obligations.PowerMoves : Prop :=
  (∀ s : State, let t := s.powerOn
    t.pc = 0x0000 ∧ t.sp = 0xFFFF ∧ loByte t.af = 0x00 ∧ t.readF = 0x02 ∧ t.iff = false ∧ t.im = .im0 ∧ t.i = 0x00 ∧
    t.halted = false ∧ t.faulted = false ∧ t.cycles = 0 ∧ t.powered = true ∧ t.resetLine = s.resetLine ∧
    t.nmiLine = s.nmiLine ∧ t.intLine = s.intLine ∧ t.intData = s.intData ∧ t.mem = s.mem ∧ t.map = s.map ∧
    t.trace = s.trace) ∧
  ∀ s : State, s.powerOff = { s with powered := false }

/-- 10 R50, the column "after powerOn": the values the spec gives. That `State.reset` is the machine after powerOn is the
model's choice (log entry 3). -/
def Obligations.ResetValues : Prop :=
  State.reset.pc = 0x0000 ∧ State.reset.sp = 0xFFFF ∧ State.reset.readF = 0x02 ∧ loByte State.reset.af = 0x00 ∧
  State.reset.iff = false ∧ State.reset.im = .im0 ∧ State.reset.i = 0x00 ∧ State.reset.halted = false ∧
  State.reset.powered = true ∧ State.reset.faulted = false ∧ State.reset.cycles = 0

/-! ## The environment (60 section 6) -/

/-- Where the map in force keeps 20 R63's invariant, no step ends in `ConfigurationError` with kind `out_of_bounds`, and
every step and every move of the environment, at a hook or between steps, keeps the invariant: 60 R400 has no move that
breaks it. A map is the list of log entry 6 (DESIGN CHOICE). -/
def Obligations.AssumedEnvironmentStaysInBounds : Prop :=
  ∀ s : State, mapInBounds s.map = true →
    (∀ t, step s = .next t → mapInBounds t.map = true) ∧
    (∀ left a, step s ≠ .fault (.configurationError left .outOfBounds a)) ∧
    (∀ m : EnvMove, mapInBounds (s.apply m).map = true) ∧
    ∀ m : HostMove, mapInBounds (s.host m).map = true

/-- 10 R44 and 60 R400: only its service lowers a raised `RESET` or `NMI`. No move of the environment lowers one (where
20 R78 would let a hook, log entry 16: the model follows R400, DESIGN CHOICE), no instruction does, on any bus, and a
step that does has serviced it: it leaves `PC` at 0x0000 or 0x0066. -/
def Obligations.RaisedLinesWaitForTheirService : Prop :=
  ∀ s : State,
    (∀ m : EnvMove, s.keepsRaised (s.apply m)) ∧
    (∀ m : HostMove, s.keepsRaised (s.host m)) ∧
    (∀ (i : Instr) (t : State), exec i s = .next t → s.keepsRaised t) ∧
    ∀ t, step s = .next t →
      (s.resetLine = true → t.resetLine = false → s.powered = true ∧ s.faulted = false ∧ t.pc = 0x0000) ∧
      (s.nmiLine = true → t.nmiLine = false →
        s.powered = true ∧ s.faulted = false ∧ s.resetLine = false ∧ t.pc = 0x0066)
end

