-- ==== Sys2Proof/Laws/ByForm.lean ====
section
/-! SUPPORT. Every complete instruction is of one of the forms of Sys2Proof/Syntax.lean, or one of 24 single ones. -/

namespace Sys2Proof.Machine

/-- A statement about every complete instruction, by its form: what `cases` on the 559 constructors comes to. The prefix
bytes are left out (47 R349). -/
theorem instr_by_form {motive : Instr → Prop}
    (load8 : ∀ (r : Reg8) (l : Loc), motive (Form.load8 r l))
    (storeHL : ∀ (r : Reg8), motive (Form.storeHL r))
    (storeIX : ∀ (d : Byte) (r : Reg8), motive (Form.storeIX d r))
    (loadImm : ∀ (n : Byte) (l : Loc), motive (Form.loadImm n l))
    (loadPair : ∀ (nn : Word) (r : Reg16), motive (Form.loadPair nn r))
    (loadMem16 : ∀ (nn : Word) (x : HLX), motive (Form.loadMem16 nn x))
    (storeMem16 : ∀ (nn : Word) (x : HLX), motive (Form.storeMem16 nn x))
    (loadSP : ∀ (x : HLX), motive (Form.loadSP x))
    (push : ∀ (r : StackReg), motive (Form.push r))
    (pop : ∀ (r : StackReg), motive (Form.pop r))
    (alu : ∀ (op : AluOp) (src : AluSrc) (i : Instr), Form.alu op src = some i → motive i)
    (inc8 : ∀ (l : Loc), motive (Form.inc8 l))
    (dec8 : ∀ (l : Loc), motive (Form.dec8 l))
    (inc16 : ∀ (r : Reg16), motive (Form.inc16 r))
    (dec16 : ∀ (r : Reg16), motive (Form.dec16 r))
    (add16 : ∀ (x : HLX) (p : Pair), motive (Form.add16 x p))
    (rot : ∀ (op : RotOp) (l : Loc), motive (Form.rot op l))
    (bit : ∀ (y : Oct) (l : Loc), motive (Form.bit y l))
    (res : ∀ (y : Oct) (l : Loc), motive (Form.res y l))
    (set : ∀ (y : Oct) (l : Loc), motive (Form.set y l))
    (jumpCond : ∀ (nn : Word) (cc : Cond), motive (Form.jumpCond nn cc))
    (jumpReg : ∀ (x : HLX), motive (Form.jumpReg x))
    (jumpRelCond : ∀ (d : Byte) (cc : RelCond), motive (Form.jumpRelCond d cc))
    (callCond : ∀ (nn : Word) (cc : Cond), motive (Form.callCond nn cc))
    (retCond : ∀ (cc : Cond), motive (Form.retCond cc))
    (restart : ∀ (y : Oct), motive (Form.restart y))
    (intMode : ∀ (m : IntMode), motive (Form.intMode m))
    (nop' : motive .nop)
    (ldAtBC_A' : motive .ldAtBC_A)
    (exAF' : motive .exAF)
    (ldA_atBC' : motive .ldA_atBC)
    (djnz' : ∀ (d : Byte), motive (.djnz d))
    (ldAtDE_A' : motive .ldAtDE_A)
    (jr' : ∀ (d : Byte), motive (.jr d))
    (ldA_atDE' : motive .ldA_atDE)
    (cpl' : motive .cpl)
    (ldMem_A' : ∀ (nn : Word), motive (.ldMem_A nn))
    (scf' : motive .scf)
    (ldA_mem' : ∀ (nn : Word), motive (.ldA_mem nn))
    (ccf' : motive .ccf)
    (halt' : motive .halt)
    (jp' : ∀ (nn : Word), motive (.jp nn))
    (ret' : motive .ret)
    (call' : ∀ (nn : Word), motive (.call nn))
    (outPort_A' : ∀ (n : Byte), motive (.outPort_A n))
    (exx' : motive .exx)
    (inA_port' : ∀ (n : Byte), motive (.inA_port n))
    (ldI_A' : motive .ldI_A)
    (reti' : motive .reti)
    (di' : motive .di)
    (ei' : motive .ei)
    (i : Instr) (h : WellFormed i = true) : motive i := by
  cases i with
  | ldBC_nn nn => exact loadPair nn .bc
  | ldB_n n => exact loadImm n (.reg .b)
  | ldC_n n => exact loadImm n (.reg .c)
  | djnz d => exact djnz' d
  | ldDE_nn nn => exact loadPair nn .de
  | ldD_n n => exact loadImm n (.reg .d)
  | jr d => exact jr' d
  | ldE_n n => exact loadImm n (.reg .e)
  | jrNZ d => exact jumpRelCond d .nz
  | ldHL_nn nn => exact loadPair nn .hl
  | ldMem_HL nn => exact storeMem16 nn .hl
  | ldH_n n => exact loadImm n (.reg .h)
  | jrZ d => exact jumpRelCond d .z
  | ldHL_mem nn => exact loadMem16 nn .hl
  | ldL_n n => exact loadImm n (.reg .l)
  | jrNC d => exact jumpRelCond d .nc
  | ldSP_nn nn => exact loadPair nn .sp
  | ldMem_A nn => exact ldMem_A' nn
  | ldAtHL_n n => exact loadImm n .atHL
  | jrC d => exact jumpRelCond d .c
  | ldA_mem nn => exact ldA_mem' nn
  | ldA_n n => exact loadImm n (.reg .a)
  | addA_n n => exact alu .add (.imm n) _ rfl
  | adcA_n n => exact alu .adc (.imm n) _ rfl
  | subA_n n => exact alu .sub (.imm n) _ rfl
  | sbcA_n n => exact alu .sbc (.imm n) _ rfl
  | andA_n n => exact alu .and (.imm n) _ rfl
  | xorA_n n => exact alu .xor (.imm n) _ rfl
  | orA_n n => exact alu .or (.imm n) _ rfl
  | cpA_n n => exact alu .cp (.imm n) _ rfl
  | jpNZ nn => exact jumpCond nn .nz
  | jp nn => exact jp' nn
  | callNZ nn => exact callCond nn .nz
  | jpZ nn => exact jumpCond nn .z
  | callZ nn => exact callCond nn .z
  | call nn => exact call' nn
  | jpNC nn => exact jumpCond nn .nc
  | outPort_A n => exact outPort_A' n
  | callNC nn => exact callCond nn .nc
  | jpC nn => exact jumpCond nn .c
  | inA_port n => exact inA_port' n
  | callC nn => exact callCond nn .c
  | jpPO nn => exact jumpCond nn .po
  | callPO nn => exact callCond nn .po
  | jpPE nn => exact jumpCond nn .pe
  | callPE nn => exact callCond nn .pe
  | jpP nn => exact jumpCond nn .p
  | callP nn => exact callCond nn .p
  | jpM nn => exact jumpCond nn .m
  | callM nn => exact callCond nn .m
  | ldIX_nn nn => exact loadPair nn .ix
  | ldMem_IX nn => exact storeMem16 nn .ix
  | ldIX_mem nn => exact loadMem16 nn .ix
  | incIXd d => exact inc8 (.atIX d)
  | decIXd d => exact dec8 (.atIX d)
  | ldIXd_n d n => exact loadImm n (.atIX d)
  | ldB_IXd d => exact load8 .b (.atIX d)
  | ldC_IXd d => exact load8 .c (.atIX d)
  | ldD_IXd d => exact load8 .d (.atIX d)
  | ldE_IXd d => exact load8 .e (.atIX d)
  | ldH_IXd d => exact load8 .h (.atIX d)
  | ldL_IXd d => exact load8 .l (.atIX d)
  | ldIXd_B d => exact storeIX d .b
  | ldIXd_C d => exact storeIX d .c
  | ldIXd_D d => exact storeIX d .d
  | ldIXd_E d => exact storeIX d .e
  | ldIXd_H d => exact storeIX d .h
  | ldIXd_L d => exact storeIX d .l
  | ldIXd_A d => exact storeIX d .a
  | ldA_IXd d => exact load8 .a (.atIX d)
  | addA_IXd d => exact alu .add (.loc (.atIX d)) _ rfl
  | adcA_IXd d => exact alu .adc (.loc (.atIX d)) _ rfl
  | subA_IXd d => exact alu .sub (.loc (.atIX d)) _ rfl
  | sbcA_IXd d => exact alu .sbc (.loc (.atIX d)) _ rfl
  | andA_IXd d => exact alu .and (.loc (.atIX d)) _ rfl
  | xorA_IXd d => exact alu .xor (.loc (.atIX d)) _ rfl
  | orA_IXd d => exact alu .or (.loc (.atIX d)) _ rfl
  | cpA_IXd d => exact alu .cp (.loc (.atIX d)) _ rfl
  | rlcIXd d => exact rot .rlc (.atIX d)
  | rrcIXd d => exact rot .rrc (.atIX d)
  | rlIXd d => exact rot .rl (.atIX d)
  | rrIXd d => exact rot .rr (.atIX d)
  | slaIXd d => exact rot .sla (.atIX d)
  | sraIXd d => exact rot .sra (.atIX d)
  | srlIXd d => exact rot .srl (.atIX d)
  | bit0_IXd d => exact bit .y0 (.atIX d)
  | bit1_IXd d => exact bit .y1 (.atIX d)
  | bit2_IXd d => exact bit .y2 (.atIX d)
  | bit3_IXd d => exact bit .y3 (.atIX d)
  | bit4_IXd d => exact bit .y4 (.atIX d)
  | bit5_IXd d => exact bit .y5 (.atIX d)
  | bit6_IXd d => exact bit .y6 (.atIX d)
  | bit7_IXd d => exact bit .y7 (.atIX d)
  | res0_IXd d => exact res .y0 (.atIX d)
  | res1_IXd d => exact res .y1 (.atIX d)
  | res2_IXd d => exact res .y2 (.atIX d)
  | res3_IXd d => exact res .y3 (.atIX d)
  | res4_IXd d => exact res .y4 (.atIX d)
  | res5_IXd d => exact res .y5 (.atIX d)
  | res6_IXd d => exact res .y6 (.atIX d)
  | res7_IXd d => exact res .y7 (.atIX d)
  | set0_IXd d => exact set .y0 (.atIX d)
  | set1_IXd d => exact set .y1 (.atIX d)
  | set2_IXd d => exact set .y2 (.atIX d)
  | set3_IXd d => exact set .y3 (.atIX d)
  | set4_IXd d => exact set .y4 (.atIX d)
  | set5_IXd d => exact set .y5 (.atIX d)
  | set6_IXd d => exact set .y6 (.atIX d)
  | set7_IXd d => exact set .y7 (.atIX d)
  | nop => exact nop'
  | ldAtBC_A => exact ldAtBC_A'
  | incBC => exact inc16 .bc
  | incB => exact inc8 (.reg .b)
  | decB => exact dec8 (.reg .b)
  | exAF => exact exAF'
  | addHL_BC => exact add16 .hl .bc
  | ldA_atBC => exact ldA_atBC'
  | decBC => exact dec16 .bc
  | incC => exact inc8 (.reg .c)
  | decC => exact dec8 (.reg .c)
  | ldAtDE_A => exact ldAtDE_A'
  | incDE => exact inc16 .de
  | incD => exact inc8 (.reg .d)
  | decD => exact dec8 (.reg .d)
  | addHL_DE => exact add16 .hl .de
  | ldA_atDE => exact ldA_atDE'
  | decDE => exact dec16 .de
  | incE => exact inc8 (.reg .e)
  | decE => exact dec8 (.reg .e)
  | incHL => exact inc16 .hl
  | incH => exact inc8 (.reg .h)
  | decH => exact dec8 (.reg .h)
  | addHL_HL => exact add16 .hl .third
  | decHL => exact dec16 .hl
  | incL => exact inc8 (.reg .l)
  | decL => exact dec8 (.reg .l)
  | cpl => exact cpl'
  | incSP => exact inc16 .sp
  | incAtHL => exact inc8 .atHL
  | decAtHL => exact dec8 .atHL
  | scf => exact scf'
  | addHL_SP => exact add16 .hl .sp
  | decSP => exact dec16 .sp
  | incA => exact inc8 (.reg .a)
  | decA => exact dec8 (.reg .a)
  | ccf => exact ccf'
  | ldB_B => exact load8 .b (.reg .b)
  | ldB_C => exact load8 .b (.reg .c)
  | ldB_D => exact load8 .b (.reg .d)
  | ldB_E => exact load8 .b (.reg .e)
  | ldB_H => exact load8 .b (.reg .h)
  | ldB_L => exact load8 .b (.reg .l)
  | ldB_atHL => exact load8 .b .atHL
  | ldB_A => exact load8 .b (.reg .a)
  | ldC_B => exact load8 .c (.reg .b)
  | ldC_C => exact load8 .c (.reg .c)
  | ldC_D => exact load8 .c (.reg .d)
  | ldC_E => exact load8 .c (.reg .e)
  | ldC_H => exact load8 .c (.reg .h)
  | ldC_L => exact load8 .c (.reg .l)
  | ldC_atHL => exact load8 .c .atHL
  | ldC_A => exact load8 .c (.reg .a)
  | ldD_B => exact load8 .d (.reg .b)
  | ldD_C => exact load8 .d (.reg .c)
  | ldD_D => exact load8 .d (.reg .d)
  | ldD_E => exact load8 .d (.reg .e)
  | ldD_H => exact load8 .d (.reg .h)
  | ldD_L => exact load8 .d (.reg .l)
  | ldD_atHL => exact load8 .d .atHL
  | ldD_A => exact load8 .d (.reg .a)
  | ldE_B => exact load8 .e (.reg .b)
  | ldE_C => exact load8 .e (.reg .c)
  | ldE_D => exact load8 .e (.reg .d)
  | ldE_E => exact load8 .e (.reg .e)
  | ldE_H => exact load8 .e (.reg .h)
  | ldE_L => exact load8 .e (.reg .l)
  | ldE_atHL => exact load8 .e .atHL
  | ldE_A => exact load8 .e (.reg .a)
  | ldH_B => exact load8 .h (.reg .b)
  | ldH_C => exact load8 .h (.reg .c)
  | ldH_D => exact load8 .h (.reg .d)
  | ldH_E => exact load8 .h (.reg .e)
  | ldH_H => exact load8 .h (.reg .h)
  | ldH_L => exact load8 .h (.reg .l)
  | ldH_atHL => exact load8 .h .atHL
  | ldH_A => exact load8 .h (.reg .a)
  | ldL_B => exact load8 .l (.reg .b)
  | ldL_C => exact load8 .l (.reg .c)
  | ldL_D => exact load8 .l (.reg .d)
  | ldL_E => exact load8 .l (.reg .e)
  | ldL_H => exact load8 .l (.reg .h)
  | ldL_L => exact load8 .l (.reg .l)
  | ldL_atHL => exact load8 .l .atHL
  | ldL_A => exact load8 .l (.reg .a)
  | ldAtHL_B => exact storeHL .b
  | ldAtHL_C => exact storeHL .c
  | ldAtHL_D => exact storeHL .d
  | ldAtHL_E => exact storeHL .e
  | ldAtHL_H => exact storeHL .h
  | ldAtHL_L => exact storeHL .l
  | halt => exact halt'
  | ldAtHL_A => exact storeHL .a
  | ldA_B => exact load8 .a (.reg .b)
  | ldA_C => exact load8 .a (.reg .c)
  | ldA_D => exact load8 .a (.reg .d)
  | ldA_E => exact load8 .a (.reg .e)
  | ldA_H => exact load8 .a (.reg .h)
  | ldA_L => exact load8 .a (.reg .l)
  | ldA_atHL => exact load8 .a .atHL
  | ldA_A => exact load8 .a (.reg .a)
  | addA_B => exact alu .add (.loc (.reg .b)) _ rfl
  | addA_D => exact alu .add (.loc (.reg .d)) _ rfl
  | addA_E => exact alu .add (.loc (.reg .e)) _ rfl
  | addA_H => exact alu .add (.loc (.reg .h)) _ rfl
  | addA_L => exact alu .add (.loc (.reg .l)) _ rfl
  | addA_atHL => exact alu .add (.loc (.atHL)) _ rfl
  | addA_A => exact alu .add (.loc (.reg .a)) _ rfl
  | adcA_B => exact alu .adc (.loc (.reg .b)) _ rfl
  | adcA_D => exact alu .adc (.loc (.reg .d)) _ rfl
  | adcA_E => exact alu .adc (.loc (.reg .e)) _ rfl
  | adcA_H => exact alu .adc (.loc (.reg .h)) _ rfl
  | adcA_L => exact alu .adc (.loc (.reg .l)) _ rfl
  | adcA_atHL => exact alu .adc (.loc (.atHL)) _ rfl
  | adcA_A => exact alu .adc (.loc (.reg .a)) _ rfl
  | subA_B => exact alu .sub (.loc (.reg .b)) _ rfl
  | subA_D => exact alu .sub (.loc (.reg .d)) _ rfl
  | subA_E => exact alu .sub (.loc (.reg .e)) _ rfl
  | subA_H => exact alu .sub (.loc (.reg .h)) _ rfl
  | subA_L => exact alu .sub (.loc (.reg .l)) _ rfl
  | subA_atHL => exact alu .sub (.loc (.atHL)) _ rfl
  | subA_A => exact alu .sub (.loc (.reg .a)) _ rfl
  | sbcA_B => exact alu .sbc (.loc (.reg .b)) _ rfl
  | sbcA_D => exact alu .sbc (.loc (.reg .d)) _ rfl
  | sbcA_E => exact alu .sbc (.loc (.reg .e)) _ rfl
  | sbcA_H => exact alu .sbc (.loc (.reg .h)) _ rfl
  | sbcA_L => exact alu .sbc (.loc (.reg .l)) _ rfl
  | sbcA_atHL => exact alu .sbc (.loc (.atHL)) _ rfl
  | sbcA_A => exact alu .sbc (.loc (.reg .a)) _ rfl
  | andA_B => exact alu .and (.loc (.reg .b)) _ rfl
  | andA_D => exact alu .and (.loc (.reg .d)) _ rfl
  | andA_E => exact alu .and (.loc (.reg .e)) _ rfl
  | andA_H => exact alu .and (.loc (.reg .h)) _ rfl
  | andA_L => exact alu .and (.loc (.reg .l)) _ rfl
  | andA_atHL => exact alu .and (.loc (.atHL)) _ rfl
  | andA_A => exact alu .and (.loc (.reg .a)) _ rfl
  | xorA_B => exact alu .xor (.loc (.reg .b)) _ rfl
  | xorA_D => exact alu .xor (.loc (.reg .d)) _ rfl
  | xorA_E => exact alu .xor (.loc (.reg .e)) _ rfl
  | xorA_H => exact alu .xor (.loc (.reg .h)) _ rfl
  | xorA_L => exact alu .xor (.loc (.reg .l)) _ rfl
  | xorA_atHL => exact alu .xor (.loc (.atHL)) _ rfl
  | xorA_A => exact alu .xor (.loc (.reg .a)) _ rfl
  | orA_B => exact alu .or (.loc (.reg .b)) _ rfl
  | orA_D => exact alu .or (.loc (.reg .d)) _ rfl
  | orA_E => exact alu .or (.loc (.reg .e)) _ rfl
  | orA_H => exact alu .or (.loc (.reg .h)) _ rfl
  | orA_L => exact alu .or (.loc (.reg .l)) _ rfl
  | orA_atHL => exact alu .or (.loc (.atHL)) _ rfl
  | orA_A => exact alu .or (.loc (.reg .a)) _ rfl
  | cpA_B => exact alu .cp (.loc (.reg .b)) _ rfl
  | cpA_D => exact alu .cp (.loc (.reg .d)) _ rfl
  | cpA_E => exact alu .cp (.loc (.reg .e)) _ rfl
  | cpA_H => exact alu .cp (.loc (.reg .h)) _ rfl
  | cpA_L => exact alu .cp (.loc (.reg .l)) _ rfl
  | cpA_atHL => exact alu .cp (.loc (.atHL)) _ rfl
  | cpA_A => exact alu .cp (.loc (.reg .a)) _ rfl
  | retNZ => exact retCond .nz
  | popBC => exact pop .bc
  | pushBC => exact push .bc
  | im0 => exact intMode .im0
  | rst00 => exact restart .y0
  | retZ => exact retCond .z
  | ret => exact ret'
  | bitPrefix => exact Bool.noConfusion h
  | im1 => exact intMode .im1
  | rst08 => exact restart .y1
  | retNC => exact retCond .nc
  | popDE => exact pop .de
  | pushDE => exact push .de
  | im2 => exact intMode .im2
  | rst10 => exact restart .y2
  | retC => exact retCond .c
  | exx => exact exx'
  | indexPrefix => exact Bool.noConfusion h
  | ldI_A => exact ldI_A'
  | rst18 => exact restart .y3
  | retPO => exact retCond .po
  | popHL => exact pop .hl
  | pushHL => exact push .hl
  | reti => exact reti'
  | rst20 => exact restart .y4
  | retPE => exact retCond .pe
  | jpHL => exact jumpReg .hl
  | rst28 => exact restart .y5
  | retP => exact retCond .p
  | popAF => exact pop .af
  | di => exact di'
  | pushAF => exact push .af
  | rst30 => exact restart .y6
  | retM => exact retCond .m
  | ldSP_HL => exact loadSP .hl
  | ei => exact ei'
  | rst38 => exact restart .y7
  | rlcB => exact rot .rlc (.reg .b)
  | rlcC => exact rot .rlc (.reg .c)
  | rlcD => exact rot .rlc (.reg .d)
  | rlcE => exact rot .rlc (.reg .e)
  | rlcH => exact rot .rlc (.reg .h)
  | rlcL => exact rot .rlc (.reg .l)
  | rlcAtHL => exact rot .rlc .atHL
  | rlcA => exact rot .rlc (.reg .a)
  | rrcB => exact rot .rrc (.reg .b)
  | rrcC => exact rot .rrc (.reg .c)
  | rrcD => exact rot .rrc (.reg .d)
  | rrcE => exact rot .rrc (.reg .e)
  | rrcH => exact rot .rrc (.reg .h)
  | rrcL => exact rot .rrc (.reg .l)
  | rrcAtHL => exact rot .rrc .atHL
  | rrcA => exact rot .rrc (.reg .a)
  | rlB => exact rot .rl (.reg .b)
  | rlC => exact rot .rl (.reg .c)
  | rlD => exact rot .rl (.reg .d)
  | rlE => exact rot .rl (.reg .e)
  | rlH => exact rot .rl (.reg .h)
  | rlL => exact rot .rl (.reg .l)
  | rlAtHL => exact rot .rl .atHL
  | rlA => exact rot .rl (.reg .a)
  | rrB => exact rot .rr (.reg .b)
  | rrC => exact rot .rr (.reg .c)
  | rrD => exact rot .rr (.reg .d)
  | rrE => exact rot .rr (.reg .e)
  | rrH => exact rot .rr (.reg .h)
  | rrL => exact rot .rr (.reg .l)
  | rrAtHL => exact rot .rr .atHL
  | rrA => exact rot .rr (.reg .a)
  | slaB => exact rot .sla (.reg .b)
  | slaC => exact rot .sla (.reg .c)
  | slaD => exact rot .sla (.reg .d)
  | slaE => exact rot .sla (.reg .e)
  | slaH => exact rot .sla (.reg .h)
  | slaL => exact rot .sla (.reg .l)
  | slaAtHL => exact rot .sla .atHL
  | slaA => exact rot .sla (.reg .a)
  | sraB => exact rot .sra (.reg .b)
  | sraC => exact rot .sra (.reg .c)
  | sraD => exact rot .sra (.reg .d)
  | sraE => exact rot .sra (.reg .e)
  | sraH => exact rot .sra (.reg .h)
  | sraL => exact rot .sra (.reg .l)
  | sraAtHL => exact rot .sra .atHL
  | sraA => exact rot .sra (.reg .a)
  | srlB => exact rot .srl (.reg .b)
  | srlC => exact rot .srl (.reg .c)
  | srlD => exact rot .srl (.reg .d)
  | srlE => exact rot .srl (.reg .e)
  | srlH => exact rot .srl (.reg .h)
  | srlL => exact rot .srl (.reg .l)
  | srlAtHL => exact rot .srl .atHL
  | srlA => exact rot .srl (.reg .a)
  | bit0_B => exact bit .y0 (.reg .b)
  | bit0_C => exact bit .y0 (.reg .c)
  | bit0_D => exact bit .y0 (.reg .d)
  | bit0_E => exact bit .y0 (.reg .e)
  | bit0_H => exact bit .y0 (.reg .h)
  | bit0_L => exact bit .y0 (.reg .l)
  | bit0_atHL => exact bit .y0 .atHL
  | bit0_A => exact bit .y0 (.reg .a)
  | bit1_B => exact bit .y1 (.reg .b)
  | bit1_C => exact bit .y1 (.reg .c)
  | bit1_D => exact bit .y1 (.reg .d)
  | bit1_E => exact bit .y1 (.reg .e)
  | bit1_H => exact bit .y1 (.reg .h)
  | bit1_L => exact bit .y1 (.reg .l)
  | bit1_atHL => exact bit .y1 .atHL
  | bit1_A => exact bit .y1 (.reg .a)
  | bit2_B => exact bit .y2 (.reg .b)
  | bit2_C => exact bit .y2 (.reg .c)
  | bit2_D => exact bit .y2 (.reg .d)
  | bit2_E => exact bit .y2 (.reg .e)
  | bit2_H => exact bit .y2 (.reg .h)
  | bit2_L => exact bit .y2 (.reg .l)
  | bit2_atHL => exact bit .y2 .atHL
  | bit2_A => exact bit .y2 (.reg .a)
  | bit3_B => exact bit .y3 (.reg .b)
  | bit3_C => exact bit .y3 (.reg .c)
  | bit3_D => exact bit .y3 (.reg .d)
  | bit3_E => exact bit .y3 (.reg .e)
  | bit3_H => exact bit .y3 (.reg .h)
  | bit3_L => exact bit .y3 (.reg .l)
  | bit3_atHL => exact bit .y3 .atHL
  | bit3_A => exact bit .y3 (.reg .a)
  | bit4_B => exact bit .y4 (.reg .b)
  | bit4_C => exact bit .y4 (.reg .c)
  | bit4_D => exact bit .y4 (.reg .d)
  | bit4_E => exact bit .y4 (.reg .e)
  | bit4_H => exact bit .y4 (.reg .h)
  | bit4_L => exact bit .y4 (.reg .l)
  | bit4_atHL => exact bit .y4 .atHL
  | bit4_A => exact bit .y4 (.reg .a)
  | bit5_B => exact bit .y5 (.reg .b)
  | bit5_C => exact bit .y5 (.reg .c)
  | bit5_D => exact bit .y5 (.reg .d)
  | bit5_E => exact bit .y5 (.reg .e)
  | bit5_H => exact bit .y5 (.reg .h)
  | bit5_L => exact bit .y5 (.reg .l)
  | bit5_atHL => exact bit .y5 .atHL
  | bit5_A => exact bit .y5 (.reg .a)
  | bit6_B => exact bit .y6 (.reg .b)
  | bit6_C => exact bit .y6 (.reg .c)
  | bit6_D => exact bit .y6 (.reg .d)
  | bit6_E => exact bit .y6 (.reg .e)
  | bit6_H => exact bit .y6 (.reg .h)
  | bit6_L => exact bit .y6 (.reg .l)
  | bit6_atHL => exact bit .y6 .atHL
  | bit6_A => exact bit .y6 (.reg .a)
  | bit7_B => exact bit .y7 (.reg .b)
  | bit7_C => exact bit .y7 (.reg .c)
  | bit7_D => exact bit .y7 (.reg .d)
  | bit7_E => exact bit .y7 (.reg .e)
  | bit7_H => exact bit .y7 (.reg .h)
  | bit7_L => exact bit .y7 (.reg .l)
  | bit7_atHL => exact bit .y7 .atHL
  | bit7_A => exact bit .y7 (.reg .a)
  | res0_B => exact res .y0 (.reg .b)
  | res0_C => exact res .y0 (.reg .c)
  | res0_D => exact res .y0 (.reg .d)
  | res0_E => exact res .y0 (.reg .e)
  | res0_H => exact res .y0 (.reg .h)
  | res0_L => exact res .y0 (.reg .l)
  | res0_atHL => exact res .y0 .atHL
  | res0_A => exact res .y0 (.reg .a)
  | res1_B => exact res .y1 (.reg .b)
  | res1_C => exact res .y1 (.reg .c)
  | res1_D => exact res .y1 (.reg .d)
  | res1_E => exact res .y1 (.reg .e)
  | res1_H => exact res .y1 (.reg .h)
  | res1_L => exact res .y1 (.reg .l)
  | res1_atHL => exact res .y1 .atHL
  | res1_A => exact res .y1 (.reg .a)
  | res2_B => exact res .y2 (.reg .b)
  | res2_C => exact res .y2 (.reg .c)
  | res2_D => exact res .y2 (.reg .d)
  | res2_E => exact res .y2 (.reg .e)
  | res2_H => exact res .y2 (.reg .h)
  | res2_L => exact res .y2 (.reg .l)
  | res2_atHL => exact res .y2 .atHL
  | res2_A => exact res .y2 (.reg .a)
  | res3_B => exact res .y3 (.reg .b)
  | res3_C => exact res .y3 (.reg .c)
  | res3_D => exact res .y3 (.reg .d)
  | res3_E => exact res .y3 (.reg .e)
  | res3_H => exact res .y3 (.reg .h)
  | res3_L => exact res .y3 (.reg .l)
  | res3_atHL => exact res .y3 .atHL
  | res3_A => exact res .y3 (.reg .a)
  | res4_B => exact res .y4 (.reg .b)
  | res4_C => exact res .y4 (.reg .c)
  | res4_D => exact res .y4 (.reg .d)
  | res4_E => exact res .y4 (.reg .e)
  | res4_H => exact res .y4 (.reg .h)
  | res4_L => exact res .y4 (.reg .l)
  | res4_atHL => exact res .y4 .atHL
  | res4_A => exact res .y4 (.reg .a)
  | res5_B => exact res .y5 (.reg .b)
  | res5_C => exact res .y5 (.reg .c)
  | res5_D => exact res .y5 (.reg .d)
  | res5_E => exact res .y5 (.reg .e)
  | res5_H => exact res .y5 (.reg .h)
  | res5_L => exact res .y5 (.reg .l)
  | res5_atHL => exact res .y5 .atHL
  | res5_A => exact res .y5 (.reg .a)
  | res6_B => exact res .y6 (.reg .b)
  | res6_C => exact res .y6 (.reg .c)
  | res6_D => exact res .y6 (.reg .d)
  | res6_E => exact res .y6 (.reg .e)
  | res6_H => exact res .y6 (.reg .h)
  | res6_L => exact res .y6 (.reg .l)
  | res6_atHL => exact res .y6 .atHL
  | res6_A => exact res .y6 (.reg .a)
  | res7_B => exact res .y7 (.reg .b)
  | res7_C => exact res .y7 (.reg .c)
  | res7_D => exact res .y7 (.reg .d)
  | res7_E => exact res .y7 (.reg .e)
  | res7_H => exact res .y7 (.reg .h)
  | res7_L => exact res .y7 (.reg .l)
  | res7_atHL => exact res .y7 .atHL
  | res7_A => exact res .y7 (.reg .a)
  | set0_B => exact set .y0 (.reg .b)
  | set0_C => exact set .y0 (.reg .c)
  | set0_D => exact set .y0 (.reg .d)
  | set0_E => exact set .y0 (.reg .e)
  | set0_H => exact set .y0 (.reg .h)
  | set0_L => exact set .y0 (.reg .l)
  | set0_atHL => exact set .y0 .atHL
  | set0_A => exact set .y0 (.reg .a)
  | set1_B => exact set .y1 (.reg .b)
  | set1_C => exact set .y1 (.reg .c)
  | set1_D => exact set .y1 (.reg .d)
  | set1_E => exact set .y1 (.reg .e)
  | set1_H => exact set .y1 (.reg .h)
  | set1_L => exact set .y1 (.reg .l)
  | set1_atHL => exact set .y1 .atHL
  | set1_A => exact set .y1 (.reg .a)
  | set2_B => exact set .y2 (.reg .b)
  | set2_C => exact set .y2 (.reg .c)
  | set2_D => exact set .y2 (.reg .d)
  | set2_E => exact set .y2 (.reg .e)
  | set2_H => exact set .y2 (.reg .h)
  | set2_L => exact set .y2 (.reg .l)
  | set2_atHL => exact set .y2 .atHL
  | set2_A => exact set .y2 (.reg .a)
  | set3_B => exact set .y3 (.reg .b)
  | set3_C => exact set .y3 (.reg .c)
  | set3_D => exact set .y3 (.reg .d)
  | set3_E => exact set .y3 (.reg .e)
  | set3_H => exact set .y3 (.reg .h)
  | set3_L => exact set .y3 (.reg .l)
  | set3_atHL => exact set .y3 .atHL
  | set3_A => exact set .y3 (.reg .a)
  | set4_B => exact set .y4 (.reg .b)
  | set4_C => exact set .y4 (.reg .c)
  | set4_D => exact set .y4 (.reg .d)
  | set4_E => exact set .y4 (.reg .e)
  | set4_H => exact set .y4 (.reg .h)
  | set4_L => exact set .y4 (.reg .l)
  | set4_atHL => exact set .y4 .atHL
  | set4_A => exact set .y4 (.reg .a)
  | set5_B => exact set .y5 (.reg .b)
  | set5_C => exact set .y5 (.reg .c)
  | set5_D => exact set .y5 (.reg .d)
  | set5_E => exact set .y5 (.reg .e)
  | set5_H => exact set .y5 (.reg .h)
  | set5_L => exact set .y5 (.reg .l)
  | set5_atHL => exact set .y5 .atHL
  | set5_A => exact set .y5 (.reg .a)
  | set6_B => exact set .y6 (.reg .b)
  | set6_C => exact set .y6 (.reg .c)
  | set6_D => exact set .y6 (.reg .d)
  | set6_E => exact set .y6 (.reg .e)
  | set6_H => exact set .y6 (.reg .h)
  | set6_L => exact set .y6 (.reg .l)
  | set6_atHL => exact set .y6 .atHL
  | set6_A => exact set .y6 (.reg .a)
  | set7_B => exact set .y7 (.reg .b)
  | set7_C => exact set .y7 (.reg .c)
  | set7_D => exact set .y7 (.reg .d)
  | set7_E => exact set .y7 (.reg .e)
  | set7_H => exact set .y7 (.reg .h)
  | set7_L => exact set .y7 (.reg .l)
  | set7_atHL => exact set .y7 .atHL
  | set7_A => exact set .y7 (.reg .a)
  | addIX_BC => exact add16 .ix .bc
  | addIX_DE => exact add16 .ix .de
  | incIX => exact inc16 .ix
  | addIX_IX => exact add16 .ix .third
  | decIX => exact dec16 .ix
  | addIX_SP => exact add16 .ix .sp
  | popIX => exact pop .ix
  | pushIX => exact push .ix
  | jpIX => exact jumpReg .ix
  | ldSP_IX => exact loadSP .ix

end Sys2Proof.Machine
end

