-- ==== Sys2Proof/Laws/Bytes.lean ====
section
/-! SUPPORT. Halves and words (10 R20), and the masked read of the flags (10 R31). -/

namespace Sys2Proof.Machine

@[simp] theorem hiByte_joinBytes (h l : Byte) : hiByte (joinBytes h l) = h := by
  apply BitVec.eq_of_getLsbD_eq
  intro i hi
  simp only [hiByte, joinBytes, BitVec.getLsbD_extractLsb', BitVec.getLsbD_append]
  simp [hi]

@[simp] theorem loByte_joinBytes (h l : Byte) : loByte (joinBytes h l) = l := by
  apply BitVec.eq_of_getLsbD_eq
  intro i hi
  simp only [loByte, joinBytes, BitVec.getLsbD_extractLsb', BitVec.getLsbD_append]
  simp [hi]

@[simp] theorem joinBytes_hi_lo (w : Word) : joinBytes (hiByte w) (loByte w) = w := by
  apply BitVec.eq_of_getLsbD_eq
  intro i hi
  simp only [joinBytes, hiByte, loByte, BitVec.getLsbD_append, BitVec.getLsbD_extractLsb']
  by_cases h : i < 8
  · simp [h]
  · have h2 : i - 8 < 8 := by omega
    have h3 : 8 + (i - 8) = i := by omega
    simp [h, h2, h3]

/-- The reserved bits of a read of `F` are fixed, whatever is stored. -/
theorem normFlags_reserved (raw : Byte) :
    (normFlags raw).getLsbD 1 = true ∧ (normFlags raw).getLsbD 3 = false ∧ (normFlags raw).getLsbD 5 = false := by
  simp [normFlags, flagOnes, flagZeros]

theorem normFlags_idem (raw : Byte) : normFlags (normFlags raw) = normFlags raw := by
  revert raw; decide

end Sys2Proof.Machine
end

