-- ==== Sys2Proof/Laws/Memory.lean ====
section
/-! SUPPORT. The laws of memory: a read after a write to the same place, a write leaves every other place alone, and every
operation keeps the canonical form. -/

namespace Sys2Proof.Machine

@[simp] theorem Memory.read_nil (a : Nat) : Memory.read [] a = Memory.unlisted := rfl

theorem Memory.read_erase_same (m : List Host.Cell) (a : Nat) : Memory.read (Memory.erase m a) a = Memory.unlisted := by
  induction m with
  | nil => rfl
  | cons c m ih =>
    obtain ⟨k, v⟩ := c
    by_cases h : a = k <;> simp [Memory.erase, Memory.read, h] <;> simpa [h] using ih

theorem Memory.read_erase_other (m : List Host.Cell) (a b : Nat) (hab : b ≠ a) :
    Memory.read (Memory.erase m a) b = Memory.read m b := by
  induction m with
  | nil => rfl
  | cons c m ih =>
    obtain ⟨k, v⟩ := c
    by_cases h : a = k
    · subst h; simp [Memory.erase, Memory.read, hab, ih]
    · simp [Memory.erase, Memory.read, h, ih]

theorem Memory.read_insert_same (m : List Host.Cell) (a : Nat) (v : Byte) (h : ∀ c ∈ m, c.1 ≠ a) :
    Memory.read (Memory.insert m a v) a = v := by
  induction m with
  | nil => simp [Memory.insert, Memory.read]
  | cons c m ih =>
    obtain ⟨k, w⟩ := c
    have hk : a ≠ k := fun e => h (k, w) (by simp) e.symm
    by_cases hl : a < k
    · simp [Memory.insert, Memory.read, hl]
    · simp [Memory.insert, Memory.read, hl, hk, ih (fun c hc => h c (by simp [hc]))]

theorem Memory.read_insert_other (m : List Host.Cell) (a b : Nat) (v : Byte) (hab : b ≠ a) :
    Memory.read (Memory.insert m a v) b = Memory.read m b := by
  induction m with
  | nil => simp [Memory.insert, Memory.read, hab]
  | cons c m ih =>
    obtain ⟨k, w⟩ := c
    by_cases hl : a < k
    · simp [Memory.insert, Memory.read, hl, hab]
    · by_cases hb : b = k <;> simp [Memory.insert, Memory.read, hl, hb]
      simpa using ih

theorem Memory.mem_erase {m : List Host.Cell} {a : Nat} {c : Host.Cell} :
    c ∈ Memory.erase m a ↔ c ∈ m ∧ c.1 ≠ a := by
  induction m with
  | nil => simp [Memory.erase]
  | cons d m ih =>
    obtain ⟨k, v⟩ := d
    by_cases h : a = k
    · subst h
      simp only [Memory.erase, if_true, ih, List.mem_cons]
      constructor
      · rintro ⟨hm, hne⟩; exact ⟨.inr hm, hne⟩
      · rintro ⟨rfl | hm, hne⟩
        · exact absurd rfl hne
        · exact ⟨hm, hne⟩
    · simp only [Memory.erase, if_neg h, List.mem_cons, ih]
      constructor
      · rintro (rfl | ⟨hm, hne⟩)
        · exact ⟨.inl rfl, fun e => h e.symm⟩
        · exact ⟨.inr hm, hne⟩
      · rintro ⟨rfl | hm, hne⟩
        · exact .inl rfl
        · exact .inr ⟨hm, hne⟩

theorem Memory.mem_insert {m : List Host.Cell} {a : Nat} {v : Byte} {c : Host.Cell} :
    c ∈ Memory.insert m a v ↔ c = (a, v) ∨ c ∈ m := by
  induction m with
  | nil => simp [Memory.insert]
  | cons d m ih =>
    obtain ⟨k, w⟩ := d
    by_cases h : a < k <;> simp [Memory.insert, h, ih]
    constructor
    · rintro (h | h | h) <;> simp [h]
    · rintro (h | h | h) <;> simp [h]

/-- A read after a write to the same index gives the byte written. -/
@[simp] theorem Memory.read_write_same (m : List Host.Cell) (a : Nat) (v : Byte) :
    Memory.read (Memory.write m a v) a = v := by
  by_cases h : v = Memory.unlisted
  · simp [Memory.write, h, Memory.read_erase_same]
  · simp only [Memory.write, if_neg h]
    exact Memory.read_insert_same _ _ _ fun c hc => (Memory.mem_erase.1 hc).2

/-- A write leaves every other index alone. -/
theorem Memory.read_write_other (m : List Host.Cell) (a b : Nat) (v : Byte) (h : b ≠ a) :
    Memory.read (Memory.write m a v) b = Memory.read m b := by
  by_cases hv : v = Memory.unlisted
  · simp [Memory.write, hv, Memory.read_erase_other _ _ _ h]
  · simp [Memory.write, hv, Memory.read_insert_other _ _ _ _ h, Memory.read_erase_other _ _ _ h]

theorem Memory.wf_cons {k : Nat} {v : Byte} {m : List Host.Cell} :
    Memory.wf ((k, v) :: m) = true ↔ v ≠ Memory.unlisted ∧ (∀ c ∈ m, k < c.1) ∧ Memory.wf m = true := by
  simp [Memory.wf, Bool.and_eq_true, and_assoc]

theorem Memory.wf_erase {m : List Host.Cell} (a : Nat) (h : Memory.wf m = true) : Memory.wf (Memory.erase m a) = true := by
  induction m with
  | nil => rfl
  | cons c m ih =>
    obtain ⟨k, v⟩ := c
    rw [Memory.wf_cons] at h
    by_cases hk : a = k
    · simpa [Memory.erase, hk] using hk ▸ ih h.2.2
    · simp only [Memory.erase, if_neg hk]
      exact Memory.wf_cons.2 ⟨h.1, fun c hc => h.2.1 c (Memory.mem_erase.1 hc).1, ih h.2.2⟩

theorem Memory.wf_insert {m : List Host.Cell} {a : Nat} {v : Byte} (hv : v ≠ Memory.unlisted)
    (ha : ∀ c ∈ m, c.1 ≠ a) (h : Memory.wf m = true) : Memory.wf (Memory.insert m a v) = true := by
  induction m with
  | nil => exact Memory.wf_cons.2 ⟨hv, by simp, rfl⟩
  | cons c m ih =>
    obtain ⟨k, w⟩ := c
    have h' := Memory.wf_cons.1 h
    have hk : k ≠ a := ha (k, w) (by simp)
    by_cases hl : a < k
    · simp only [Memory.insert, if_pos hl]
      refine Memory.wf_cons.2 ⟨hv, fun c hc => ?_, h⟩
      rcases List.mem_cons.1 hc with rfl | hc
      · exact hl
      · exact Nat.lt_trans hl (h'.2.1 c hc)
    · simp only [Memory.insert, if_neg hl]
      refine Memory.wf_cons.2 ⟨h'.1, fun c hc => ?_, ih (fun c hc => ha c (by simp [hc])) h'.2.2⟩
      rcases Memory.mem_insert.1 hc with rfl | hc
      · show k < a; omega
      · exact h'.2.1 c hc

/-- A write keeps the canonical form. -/
theorem Memory.wf_write {m : List Host.Cell} (a : Nat) (v : Byte) (h : Memory.wf m = true) :
    Memory.wf (Memory.write m a v) = true := by
  by_cases hv : v = Memory.unlisted
  · simp [Memory.write, hv, Memory.wf_erase a h]
  · simp only [Memory.write, if_neg hv]
    exact Memory.wf_insert hv (fun c hc => (Memory.mem_erase.1 hc).2) (Memory.wf_erase a h)

/-- Reset memory has the canonical form. -/
theorem State.reset_wf : Memory.wf State.reset.mem = true := rfl

end Sys2Proof.Machine
end

