-- ==== Sys2Proof/Laws/State.lean ====
section
/-! SUPPORT. One lemma per field per named update of State, so that no proof unfolds a record update. -/

namespace Sys2Proof.Machine

variable (s : State)

/-! `State.addCycles` -/
@[simp] theorem State.addCycles_af (n : Nat) : (s.addCycles n).af = s.af := rfl
@[simp] theorem State.addCycles_bc (n : Nat) : (s.addCycles n).bc = s.bc := rfl
@[simp] theorem State.addCycles_de (n : Nat) : (s.addCycles n).de = s.de := rfl
@[simp] theorem State.addCycles_hl (n : Nat) : (s.addCycles n).hl = s.hl := rfl
@[simp] theorem State.addCycles_afAlt (n : Nat) : (s.addCycles n).afAlt = s.afAlt := rfl
@[simp] theorem State.addCycles_bcAlt (n : Nat) : (s.addCycles n).bcAlt = s.bcAlt := rfl
@[simp] theorem State.addCycles_deAlt (n : Nat) : (s.addCycles n).deAlt = s.deAlt := rfl
@[simp] theorem State.addCycles_hlAlt (n : Nat) : (s.addCycles n).hlAlt = s.hlAlt := rfl
@[simp] theorem State.addCycles_ix (n : Nat) : (s.addCycles n).ix = s.ix := rfl
@[simp] theorem State.addCycles_sp (n : Nat) : (s.addCycles n).sp = s.sp := rfl
@[simp] theorem State.addCycles_pc (n : Nat) : (s.addCycles n).pc = s.pc := rfl
@[simp] theorem State.addCycles_latch (n : Nat) : (s.addCycles n).latch = s.latch := rfl
@[simp] theorem State.addCycles_i (n : Nat) : (s.addCycles n).i = s.i := rfl
@[simp] theorem State.addCycles_im (n : Nat) : (s.addCycles n).im = s.im := rfl
@[simp] theorem State.addCycles_iff (n : Nat) : (s.addCycles n).iff = s.iff := rfl
@[simp] theorem State.addCycles_halted (n : Nat) : (s.addCycles n).halted = s.halted := rfl
@[simp] theorem State.addCycles_powered (n : Nat) : (s.addCycles n).powered = s.powered := rfl
@[simp] theorem State.addCycles_faulted (n : Nat) : (s.addCycles n).faulted = s.faulted := rfl
@[simp] theorem State.addCycles_cycles (n : Nat) : (s.addCycles n).cycles = s.cycles + n := rfl
@[simp] theorem State.addCycles_resetLine (n : Nat) : (s.addCycles n).resetLine = s.resetLine := rfl
@[simp] theorem State.addCycles_nmiLine (n : Nat) : (s.addCycles n).nmiLine = s.nmiLine := rfl
@[simp] theorem State.addCycles_intLine (n : Nat) : (s.addCycles n).intLine = s.intLine := rfl
@[simp] theorem State.addCycles_intData (n : Nat) : (s.addCycles n).intData = s.intData := rfl
@[simp] theorem State.addCycles_address (n : Nat) : (s.addCycles n).address = s.address := rfl
@[simp] theorem State.addCycles_data (n : Nat) : (s.addCycles n).data = s.data := rfl
@[simp] theorem State.addCycles_pfx (n : Nat) : (s.addCycles n).pfx = s.pfx := rfl
@[simp] theorem State.addCycles_mem (n : Nat) : (s.addCycles n).mem = s.mem := rfl
@[simp] theorem State.addCycles_map (n : Nat) : (s.addCycles n).map = s.map := rfl
@[simp] theorem State.addCycles_trace (n : Nat) : (s.addCycles n).trace = s.trace := rfl
@[simp] theorem State.addCycles_events (n : Nat) : (s.addCycles n).events = s.events := rfl
@[simp] theorem State.addCycles_hooks (n : Nat) : (s.addCycles n).hooks = s.hooks := rfl
@[simp] theorem State.addCycles_portIn (n : Nat) : (s.addCycles n).portIn = s.portIn := rfl
@[simp] theorem State.addCycles_draws (n : Nat) : (s.addCycles n).draws = s.draws := rfl

/-! `State.writeF` -/
@[simp] theorem State.writeF_af (v : Byte) : (s.writeF v).af = joinBytes (hiByte s.af) v := rfl
@[simp] theorem State.writeF_bc (v : Byte) : (s.writeF v).bc = s.bc := rfl
@[simp] theorem State.writeF_de (v : Byte) : (s.writeF v).de = s.de := rfl
@[simp] theorem State.writeF_hl (v : Byte) : (s.writeF v).hl = s.hl := rfl
@[simp] theorem State.writeF_afAlt (v : Byte) : (s.writeF v).afAlt = s.afAlt := rfl
@[simp] theorem State.writeF_bcAlt (v : Byte) : (s.writeF v).bcAlt = s.bcAlt := rfl
@[simp] theorem State.writeF_deAlt (v : Byte) : (s.writeF v).deAlt = s.deAlt := rfl
@[simp] theorem State.writeF_hlAlt (v : Byte) : (s.writeF v).hlAlt = s.hlAlt := rfl
@[simp] theorem State.writeF_ix (v : Byte) : (s.writeF v).ix = s.ix := rfl
@[simp] theorem State.writeF_sp (v : Byte) : (s.writeF v).sp = s.sp := rfl
@[simp] theorem State.writeF_pc (v : Byte) : (s.writeF v).pc = s.pc := rfl
@[simp] theorem State.writeF_latch (v : Byte) : (s.writeF v).latch = s.latch := rfl
@[simp] theorem State.writeF_i (v : Byte) : (s.writeF v).i = s.i := rfl
@[simp] theorem State.writeF_im (v : Byte) : (s.writeF v).im = s.im := rfl
@[simp] theorem State.writeF_iff (v : Byte) : (s.writeF v).iff = s.iff := rfl
@[simp] theorem State.writeF_halted (v : Byte) : (s.writeF v).halted = s.halted := rfl
@[simp] theorem State.writeF_powered (v : Byte) : (s.writeF v).powered = s.powered := rfl
@[simp] theorem State.writeF_faulted (v : Byte) : (s.writeF v).faulted = s.faulted := rfl
@[simp] theorem State.writeF_cycles (v : Byte) : (s.writeF v).cycles = s.cycles := rfl
@[simp] theorem State.writeF_resetLine (v : Byte) : (s.writeF v).resetLine = s.resetLine := rfl
@[simp] theorem State.writeF_nmiLine (v : Byte) : (s.writeF v).nmiLine = s.nmiLine := rfl
@[simp] theorem State.writeF_intLine (v : Byte) : (s.writeF v).intLine = s.intLine := rfl
@[simp] theorem State.writeF_intData (v : Byte) : (s.writeF v).intData = s.intData := rfl
@[simp] theorem State.writeF_address (v : Byte) : (s.writeF v).address = s.address := rfl
@[simp] theorem State.writeF_data (v : Byte) : (s.writeF v).data = s.data := rfl
@[simp] theorem State.writeF_pfx (v : Byte) : (s.writeF v).pfx = s.pfx := rfl
@[simp] theorem State.writeF_mem (v : Byte) : (s.writeF v).mem = s.mem := rfl
@[simp] theorem State.writeF_map (v : Byte) : (s.writeF v).map = s.map := rfl
@[simp] theorem State.writeF_trace (v : Byte) : (s.writeF v).trace = s.trace := rfl
@[simp] theorem State.writeF_events (v : Byte) : (s.writeF v).events = s.events := rfl
@[simp] theorem State.writeF_hooks (v : Byte) : (s.writeF v).hooks = s.hooks := rfl
@[simp] theorem State.writeF_portIn (v : Byte) : (s.writeF v).portIn = s.portIn := rfl
@[simp] theorem State.writeF_draws (v : Byte) : (s.writeF v).draws = s.draws := rfl

/-! `State.writeA` -/
@[simp] theorem State.writeA_af (v : Byte) : (s.writeA v).af = joinBytes v (loByte s.af) := rfl
@[simp] theorem State.writeA_bc (v : Byte) : (s.writeA v).bc = s.bc := rfl
@[simp] theorem State.writeA_de (v : Byte) : (s.writeA v).de = s.de := rfl
@[simp] theorem State.writeA_hl (v : Byte) : (s.writeA v).hl = s.hl := rfl
@[simp] theorem State.writeA_afAlt (v : Byte) : (s.writeA v).afAlt = s.afAlt := rfl
@[simp] theorem State.writeA_bcAlt (v : Byte) : (s.writeA v).bcAlt = s.bcAlt := rfl
@[simp] theorem State.writeA_deAlt (v : Byte) : (s.writeA v).deAlt = s.deAlt := rfl
@[simp] theorem State.writeA_hlAlt (v : Byte) : (s.writeA v).hlAlt = s.hlAlt := rfl
@[simp] theorem State.writeA_ix (v : Byte) : (s.writeA v).ix = s.ix := rfl
@[simp] theorem State.writeA_sp (v : Byte) : (s.writeA v).sp = s.sp := rfl
@[simp] theorem State.writeA_pc (v : Byte) : (s.writeA v).pc = s.pc := rfl
@[simp] theorem State.writeA_latch (v : Byte) : (s.writeA v).latch = s.latch := rfl
@[simp] theorem State.writeA_i (v : Byte) : (s.writeA v).i = s.i := rfl
@[simp] theorem State.writeA_im (v : Byte) : (s.writeA v).im = s.im := rfl
@[simp] theorem State.writeA_iff (v : Byte) : (s.writeA v).iff = s.iff := rfl
@[simp] theorem State.writeA_halted (v : Byte) : (s.writeA v).halted = s.halted := rfl
@[simp] theorem State.writeA_powered (v : Byte) : (s.writeA v).powered = s.powered := rfl
@[simp] theorem State.writeA_faulted (v : Byte) : (s.writeA v).faulted = s.faulted := rfl
@[simp] theorem State.writeA_cycles (v : Byte) : (s.writeA v).cycles = s.cycles := rfl
@[simp] theorem State.writeA_resetLine (v : Byte) : (s.writeA v).resetLine = s.resetLine := rfl
@[simp] theorem State.writeA_nmiLine (v : Byte) : (s.writeA v).nmiLine = s.nmiLine := rfl
@[simp] theorem State.writeA_intLine (v : Byte) : (s.writeA v).intLine = s.intLine := rfl
@[simp] theorem State.writeA_intData (v : Byte) : (s.writeA v).intData = s.intData := rfl
@[simp] theorem State.writeA_address (v : Byte) : (s.writeA v).address = s.address := rfl
@[simp] theorem State.writeA_data (v : Byte) : (s.writeA v).data = s.data := rfl
@[simp] theorem State.writeA_pfx (v : Byte) : (s.writeA v).pfx = s.pfx := rfl
@[simp] theorem State.writeA_mem (v : Byte) : (s.writeA v).mem = s.mem := rfl
@[simp] theorem State.writeA_map (v : Byte) : (s.writeA v).map = s.map := rfl
@[simp] theorem State.writeA_trace (v : Byte) : (s.writeA v).trace = s.trace := rfl
@[simp] theorem State.writeA_events (v : Byte) : (s.writeA v).events = s.events := rfl
@[simp] theorem State.writeA_hooks (v : Byte) : (s.writeA v).hooks = s.hooks := rfl
@[simp] theorem State.writeA_portIn (v : Byte) : (s.writeA v).portIn = s.portIn := rfl
@[simp] theorem State.writeA_draws (v : Byte) : (s.writeA v).draws = s.draws := rfl

/-! `State.write8` -/
@[simp] theorem State.write8_afAlt (r : Reg8) (v : Byte) : (s.write8 r v).afAlt = s.afAlt := by cases r <;> rfl
@[simp] theorem State.write8_bcAlt (r : Reg8) (v : Byte) : (s.write8 r v).bcAlt = s.bcAlt := by cases r <;> rfl
@[simp] theorem State.write8_deAlt (r : Reg8) (v : Byte) : (s.write8 r v).deAlt = s.deAlt := by cases r <;> rfl
@[simp] theorem State.write8_hlAlt (r : Reg8) (v : Byte) : (s.write8 r v).hlAlt = s.hlAlt := by cases r <;> rfl
@[simp] theorem State.write8_ix (r : Reg8) (v : Byte) : (s.write8 r v).ix = s.ix := by cases r <;> rfl
@[simp] theorem State.write8_sp (r : Reg8) (v : Byte) : (s.write8 r v).sp = s.sp := by cases r <;> rfl
@[simp] theorem State.write8_pc (r : Reg8) (v : Byte) : (s.write8 r v).pc = s.pc := by cases r <;> rfl
@[simp] theorem State.write8_latch (r : Reg8) (v : Byte) : (s.write8 r v).latch = s.latch := by cases r <;> rfl
@[simp] theorem State.write8_i (r : Reg8) (v : Byte) : (s.write8 r v).i = s.i := by cases r <;> rfl
@[simp] theorem State.write8_im (r : Reg8) (v : Byte) : (s.write8 r v).im = s.im := by cases r <;> rfl
@[simp] theorem State.write8_iff (r : Reg8) (v : Byte) : (s.write8 r v).iff = s.iff := by cases r <;> rfl
@[simp] theorem State.write8_halted (r : Reg8) (v : Byte) : (s.write8 r v).halted = s.halted := by cases r <;> rfl
@[simp] theorem State.write8_powered (r : Reg8) (v : Byte) : (s.write8 r v).powered = s.powered := by cases r <;> rfl
@[simp] theorem State.write8_faulted (r : Reg8) (v : Byte) : (s.write8 r v).faulted = s.faulted := by cases r <;> rfl
@[simp] theorem State.write8_cycles (r : Reg8) (v : Byte) : (s.write8 r v).cycles = s.cycles := by cases r <;> rfl
@[simp] theorem State.write8_resetLine (r : Reg8) (v : Byte) : (s.write8 r v).resetLine = s.resetLine := by cases r <;> rfl
@[simp] theorem State.write8_nmiLine (r : Reg8) (v : Byte) : (s.write8 r v).nmiLine = s.nmiLine := by cases r <;> rfl
@[simp] theorem State.write8_intLine (r : Reg8) (v : Byte) : (s.write8 r v).intLine = s.intLine := by cases r <;> rfl
@[simp] theorem State.write8_intData (r : Reg8) (v : Byte) : (s.write8 r v).intData = s.intData := by cases r <;> rfl
@[simp] theorem State.write8_address (r : Reg8) (v : Byte) : (s.write8 r v).address = s.address := by cases r <;> rfl
@[simp] theorem State.write8_data (r : Reg8) (v : Byte) : (s.write8 r v).data = s.data := by cases r <;> rfl
@[simp] theorem State.write8_pfx (r : Reg8) (v : Byte) : (s.write8 r v).pfx = s.pfx := by cases r <;> rfl
@[simp] theorem State.write8_mem (r : Reg8) (v : Byte) : (s.write8 r v).mem = s.mem := by cases r <;> rfl
@[simp] theorem State.write8_map (r : Reg8) (v : Byte) : (s.write8 r v).map = s.map := by cases r <;> rfl
@[simp] theorem State.write8_trace (r : Reg8) (v : Byte) : (s.write8 r v).trace = s.trace := by cases r <;> rfl
@[simp] theorem State.write8_events (r : Reg8) (v : Byte) : (s.write8 r v).events = s.events := by cases r <;> rfl
@[simp] theorem State.write8_hooks (r : Reg8) (v : Byte) : (s.write8 r v).hooks = s.hooks := by cases r <;> rfl
@[simp] theorem State.write8_portIn (r : Reg8) (v : Byte) : (s.write8 r v).portIn = s.portIn := by cases r <;> rfl
@[simp] theorem State.write8_draws (r : Reg8) (v : Byte) : (s.write8 r v).draws = s.draws := by cases r <;> rfl

/-! `State.write16` -/
@[simp] theorem State.write16_af (r : Reg16) (w : Word) : (s.write16 r w).af = s.af := by cases r <;> rfl
@[simp] theorem State.write16_afAlt (r : Reg16) (w : Word) : (s.write16 r w).afAlt = s.afAlt := by cases r <;> rfl
@[simp] theorem State.write16_bcAlt (r : Reg16) (w : Word) : (s.write16 r w).bcAlt = s.bcAlt := by cases r <;> rfl
@[simp] theorem State.write16_deAlt (r : Reg16) (w : Word) : (s.write16 r w).deAlt = s.deAlt := by cases r <;> rfl
@[simp] theorem State.write16_hlAlt (r : Reg16) (w : Word) : (s.write16 r w).hlAlt = s.hlAlt := by cases r <;> rfl
@[simp] theorem State.write16_pc (r : Reg16) (w : Word) : (s.write16 r w).pc = s.pc := by cases r <;> rfl
@[simp] theorem State.write16_latch (r : Reg16) (w : Word) : (s.write16 r w).latch = s.latch := by cases r <;> rfl
@[simp] theorem State.write16_i (r : Reg16) (w : Word) : (s.write16 r w).i = s.i := by cases r <;> rfl
@[simp] theorem State.write16_im (r : Reg16) (w : Word) : (s.write16 r w).im = s.im := by cases r <;> rfl
@[simp] theorem State.write16_iff (r : Reg16) (w : Word) : (s.write16 r w).iff = s.iff := by cases r <;> rfl
@[simp] theorem State.write16_halted (r : Reg16) (w : Word) : (s.write16 r w).halted = s.halted := by cases r <;> rfl
@[simp] theorem State.write16_powered (r : Reg16) (w : Word) : (s.write16 r w).powered = s.powered := by cases r <;> rfl
@[simp] theorem State.write16_faulted (r : Reg16) (w : Word) : (s.write16 r w).faulted = s.faulted := by cases r <;> rfl
@[simp] theorem State.write16_cycles (r : Reg16) (w : Word) : (s.write16 r w).cycles = s.cycles := by cases r <;> rfl
@[simp] theorem State.write16_resetLine (r : Reg16) (w : Word) : (s.write16 r w).resetLine = s.resetLine := by cases r <;> rfl
@[simp] theorem State.write16_nmiLine (r : Reg16) (w : Word) : (s.write16 r w).nmiLine = s.nmiLine := by cases r <;> rfl
@[simp] theorem State.write16_intLine (r : Reg16) (w : Word) : (s.write16 r w).intLine = s.intLine := by cases r <;> rfl
@[simp] theorem State.write16_intData (r : Reg16) (w : Word) : (s.write16 r w).intData = s.intData := by cases r <;> rfl
@[simp] theorem State.write16_address (r : Reg16) (w : Word) : (s.write16 r w).address = s.address := by cases r <;> rfl
@[simp] theorem State.write16_data (r : Reg16) (w : Word) : (s.write16 r w).data = s.data := by cases r <;> rfl
@[simp] theorem State.write16_pfx (r : Reg16) (w : Word) : (s.write16 r w).pfx = s.pfx := by cases r <;> rfl
@[simp] theorem State.write16_mem (r : Reg16) (w : Word) : (s.write16 r w).mem = s.mem := by cases r <;> rfl
@[simp] theorem State.write16_map (r : Reg16) (w : Word) : (s.write16 r w).map = s.map := by cases r <;> rfl
@[simp] theorem State.write16_trace (r : Reg16) (w : Word) : (s.write16 r w).trace = s.trace := by cases r <;> rfl
@[simp] theorem State.write16_events (r : Reg16) (w : Word) : (s.write16 r w).events = s.events := by cases r <;> rfl
@[simp] theorem State.write16_hooks (r : Reg16) (w : Word) : (s.write16 r w).hooks = s.hooks := by cases r <;> rfl
@[simp] theorem State.write16_portIn (r : Reg16) (w : Word) : (s.write16 r w).portIn = s.portIn := by cases r <;> rfl
@[simp] theorem State.write16_draws (r : Reg16) (w : Word) : (s.write16 r w).draws = s.draws := by cases r <;> rfl

/-! `State.writeStackReg` -/
@[simp] theorem State.writeStackReg_afAlt (r : StackReg) (w : Word) : (s.writeStackReg r w).afAlt = s.afAlt := by cases r <;> rfl
@[simp] theorem State.writeStackReg_bcAlt (r : StackReg) (w : Word) : (s.writeStackReg r w).bcAlt = s.bcAlt := by cases r <;> rfl
@[simp] theorem State.writeStackReg_deAlt (r : StackReg) (w : Word) : (s.writeStackReg r w).deAlt = s.deAlt := by cases r <;> rfl
@[simp] theorem State.writeStackReg_hlAlt (r : StackReg) (w : Word) : (s.writeStackReg r w).hlAlt = s.hlAlt := by cases r <;> rfl
@[simp] theorem State.writeStackReg_sp (r : StackReg) (w : Word) : (s.writeStackReg r w).sp = s.sp := by cases r <;> rfl
@[simp] theorem State.writeStackReg_pc (r : StackReg) (w : Word) : (s.writeStackReg r w).pc = s.pc := by cases r <;> rfl
@[simp] theorem State.writeStackReg_latch (r : StackReg) (w : Word) : (s.writeStackReg r w).latch = s.latch := by cases r <;> rfl
@[simp] theorem State.writeStackReg_i (r : StackReg) (w : Word) : (s.writeStackReg r w).i = s.i := by cases r <;> rfl
@[simp] theorem State.writeStackReg_im (r : StackReg) (w : Word) : (s.writeStackReg r w).im = s.im := by cases r <;> rfl
@[simp] theorem State.writeStackReg_iff (r : StackReg) (w : Word) : (s.writeStackReg r w).iff = s.iff := by cases r <;> rfl
@[simp] theorem State.writeStackReg_halted (r : StackReg) (w : Word) : (s.writeStackReg r w).halted = s.halted := by cases r <;> rfl
@[simp] theorem State.writeStackReg_powered (r : StackReg) (w : Word) : (s.writeStackReg r w).powered = s.powered := by cases r <;> rfl
@[simp] theorem State.writeStackReg_faulted (r : StackReg) (w : Word) : (s.writeStackReg r w).faulted = s.faulted := by cases r <;> rfl
@[simp] theorem State.writeStackReg_cycles (r : StackReg) (w : Word) : (s.writeStackReg r w).cycles = s.cycles := by cases r <;> rfl
@[simp] theorem State.writeStackReg_resetLine (r : StackReg) (w : Word) : (s.writeStackReg r w).resetLine = s.resetLine := by cases r <;> rfl
@[simp] theorem State.writeStackReg_nmiLine (r : StackReg) (w : Word) : (s.writeStackReg r w).nmiLine = s.nmiLine := by cases r <;> rfl
@[simp] theorem State.writeStackReg_intLine (r : StackReg) (w : Word) : (s.writeStackReg r w).intLine = s.intLine := by cases r <;> rfl
@[simp] theorem State.writeStackReg_intData (r : StackReg) (w : Word) : (s.writeStackReg r w).intData = s.intData := by cases r <;> rfl
@[simp] theorem State.writeStackReg_address (r : StackReg) (w : Word) : (s.writeStackReg r w).address = s.address := by cases r <;> rfl
@[simp] theorem State.writeStackReg_data (r : StackReg) (w : Word) : (s.writeStackReg r w).data = s.data := by cases r <;> rfl
@[simp] theorem State.writeStackReg_pfx (r : StackReg) (w : Word) : (s.writeStackReg r w).pfx = s.pfx := by cases r <;> rfl
@[simp] theorem State.writeStackReg_mem (r : StackReg) (w : Word) : (s.writeStackReg r w).mem = s.mem := by cases r <;> rfl
@[simp] theorem State.writeStackReg_map (r : StackReg) (w : Word) : (s.writeStackReg r w).map = s.map := by cases r <;> rfl
@[simp] theorem State.writeStackReg_trace (r : StackReg) (w : Word) : (s.writeStackReg r w).trace = s.trace := by cases r <;> rfl
@[simp] theorem State.writeStackReg_events (r : StackReg) (w : Word) : (s.writeStackReg r w).events = s.events := by cases r <;> rfl
@[simp] theorem State.writeStackReg_hooks (r : StackReg) (w : Word) : (s.writeStackReg r w).hooks = s.hooks := by cases r <;> rfl
@[simp] theorem State.writeStackReg_portIn (r : StackReg) (w : Word) : (s.writeStackReg r w).portIn = s.portIn := by cases r <;> rfl
@[simp] theorem State.writeStackReg_draws (r : StackReg) (w : Word) : (s.writeStackReg r w).draws = s.draws := by cases r <;> rfl

/-! `State.writePC` -/
@[simp] theorem State.writePC_af (w : Word) : (s.writePC w).af = s.af := rfl
@[simp] theorem State.writePC_bc (w : Word) : (s.writePC w).bc = s.bc := rfl
@[simp] theorem State.writePC_de (w : Word) : (s.writePC w).de = s.de := rfl
@[simp] theorem State.writePC_hl (w : Word) : (s.writePC w).hl = s.hl := rfl
@[simp] theorem State.writePC_afAlt (w : Word) : (s.writePC w).afAlt = s.afAlt := rfl
@[simp] theorem State.writePC_bcAlt (w : Word) : (s.writePC w).bcAlt = s.bcAlt := rfl
@[simp] theorem State.writePC_deAlt (w : Word) : (s.writePC w).deAlt = s.deAlt := rfl
@[simp] theorem State.writePC_hlAlt (w : Word) : (s.writePC w).hlAlt = s.hlAlt := rfl
@[simp] theorem State.writePC_ix (w : Word) : (s.writePC w).ix = s.ix := rfl
@[simp] theorem State.writePC_sp (w : Word) : (s.writePC w).sp = s.sp := rfl
@[simp] theorem State.writePC_pc (w : Word) : (s.writePC w).pc = w := rfl
@[simp] theorem State.writePC_latch (w : Word) : (s.writePC w).latch = s.latch := rfl
@[simp] theorem State.writePC_i (w : Word) : (s.writePC w).i = s.i := rfl
@[simp] theorem State.writePC_im (w : Word) : (s.writePC w).im = s.im := rfl
@[simp] theorem State.writePC_iff (w : Word) : (s.writePC w).iff = s.iff := rfl
@[simp] theorem State.writePC_halted (w : Word) : (s.writePC w).halted = s.halted := rfl
@[simp] theorem State.writePC_powered (w : Word) : (s.writePC w).powered = s.powered := rfl
@[simp] theorem State.writePC_faulted (w : Word) : (s.writePC w).faulted = s.faulted := rfl
@[simp] theorem State.writePC_cycles (w : Word) : (s.writePC w).cycles = s.cycles := rfl
@[simp] theorem State.writePC_resetLine (w : Word) : (s.writePC w).resetLine = s.resetLine := rfl
@[simp] theorem State.writePC_nmiLine (w : Word) : (s.writePC w).nmiLine = s.nmiLine := rfl
@[simp] theorem State.writePC_intLine (w : Word) : (s.writePC w).intLine = s.intLine := rfl
@[simp] theorem State.writePC_intData (w : Word) : (s.writePC w).intData = s.intData := rfl
@[simp] theorem State.writePC_address (w : Word) : (s.writePC w).address = s.address := rfl
@[simp] theorem State.writePC_data (w : Word) : (s.writePC w).data = s.data := rfl
@[simp] theorem State.writePC_pfx (w : Word) : (s.writePC w).pfx = s.pfx := rfl
@[simp] theorem State.writePC_mem (w : Word) : (s.writePC w).mem = s.mem := rfl
@[simp] theorem State.writePC_map (w : Word) : (s.writePC w).map = s.map := rfl
@[simp] theorem State.writePC_trace (w : Word) : (s.writePC w).trace = s.trace := rfl
@[simp] theorem State.writePC_events (w : Word) : (s.writePC w).events = s.events := rfl
@[simp] theorem State.writePC_hooks (w : Word) : (s.writePC w).hooks = s.hooks := rfl
@[simp] theorem State.writePC_portIn (w : Word) : (s.writePC w).portIn = s.portIn := rfl
@[simp] theorem State.writePC_draws (w : Word) : (s.writePC w).draws = s.draws := rfl

/-! `State.writeSP` -/
@[simp] theorem State.writeSP_af (w : Word) : (s.writeSP w).af = s.af := rfl
@[simp] theorem State.writeSP_bc (w : Word) : (s.writeSP w).bc = s.bc := rfl
@[simp] theorem State.writeSP_de (w : Word) : (s.writeSP w).de = s.de := rfl
@[simp] theorem State.writeSP_hl (w : Word) : (s.writeSP w).hl = s.hl := rfl
@[simp] theorem State.writeSP_afAlt (w : Word) : (s.writeSP w).afAlt = s.afAlt := rfl
@[simp] theorem State.writeSP_bcAlt (w : Word) : (s.writeSP w).bcAlt = s.bcAlt := rfl
@[simp] theorem State.writeSP_deAlt (w : Word) : (s.writeSP w).deAlt = s.deAlt := rfl
@[simp] theorem State.writeSP_hlAlt (w : Word) : (s.writeSP w).hlAlt = s.hlAlt := rfl
@[simp] theorem State.writeSP_ix (w : Word) : (s.writeSP w).ix = s.ix := rfl
@[simp] theorem State.writeSP_sp (w : Word) : (s.writeSP w).sp = w := rfl
@[simp] theorem State.writeSP_pc (w : Word) : (s.writeSP w).pc = s.pc := rfl
@[simp] theorem State.writeSP_latch (w : Word) : (s.writeSP w).latch = s.latch := rfl
@[simp] theorem State.writeSP_i (w : Word) : (s.writeSP w).i = s.i := rfl
@[simp] theorem State.writeSP_im (w : Word) : (s.writeSP w).im = s.im := rfl
@[simp] theorem State.writeSP_iff (w : Word) : (s.writeSP w).iff = s.iff := rfl
@[simp] theorem State.writeSP_halted (w : Word) : (s.writeSP w).halted = s.halted := rfl
@[simp] theorem State.writeSP_powered (w : Word) : (s.writeSP w).powered = s.powered := rfl
@[simp] theorem State.writeSP_faulted (w : Word) : (s.writeSP w).faulted = s.faulted := rfl
@[simp] theorem State.writeSP_cycles (w : Word) : (s.writeSP w).cycles = s.cycles := rfl
@[simp] theorem State.writeSP_resetLine (w : Word) : (s.writeSP w).resetLine = s.resetLine := rfl
@[simp] theorem State.writeSP_nmiLine (w : Word) : (s.writeSP w).nmiLine = s.nmiLine := rfl
@[simp] theorem State.writeSP_intLine (w : Word) : (s.writeSP w).intLine = s.intLine := rfl
@[simp] theorem State.writeSP_intData (w : Word) : (s.writeSP w).intData = s.intData := rfl
@[simp] theorem State.writeSP_address (w : Word) : (s.writeSP w).address = s.address := rfl
@[simp] theorem State.writeSP_data (w : Word) : (s.writeSP w).data = s.data := rfl
@[simp] theorem State.writeSP_pfx (w : Word) : (s.writeSP w).pfx = s.pfx := rfl
@[simp] theorem State.writeSP_mem (w : Word) : (s.writeSP w).mem = s.mem := rfl
@[simp] theorem State.writeSP_map (w : Word) : (s.writeSP w).map = s.map := rfl
@[simp] theorem State.writeSP_trace (w : Word) : (s.writeSP w).trace = s.trace := rfl
@[simp] theorem State.writeSP_events (w : Word) : (s.writeSP w).events = s.events := rfl
@[simp] theorem State.writeSP_hooks (w : Word) : (s.writeSP w).hooks = s.hooks := rfl
@[simp] theorem State.writeSP_portIn (w : Word) : (s.writeSP w).portIn = s.portIn := rfl
@[simp] theorem State.writeSP_draws (w : Word) : (s.writeSP w).draws = s.draws := rfl

/-! `State.writeLatch` -/
@[simp] theorem State.writeLatch_af (w : Word) : (s.writeLatch w).af = s.af := rfl
@[simp] theorem State.writeLatch_bc (w : Word) : (s.writeLatch w).bc = s.bc := rfl
@[simp] theorem State.writeLatch_de (w : Word) : (s.writeLatch w).de = s.de := rfl
@[simp] theorem State.writeLatch_hl (w : Word) : (s.writeLatch w).hl = s.hl := rfl
@[simp] theorem State.writeLatch_afAlt (w : Word) : (s.writeLatch w).afAlt = s.afAlt := rfl
@[simp] theorem State.writeLatch_bcAlt (w : Word) : (s.writeLatch w).bcAlt = s.bcAlt := rfl
@[simp] theorem State.writeLatch_deAlt (w : Word) : (s.writeLatch w).deAlt = s.deAlt := rfl
@[simp] theorem State.writeLatch_hlAlt (w : Word) : (s.writeLatch w).hlAlt = s.hlAlt := rfl
@[simp] theorem State.writeLatch_ix (w : Word) : (s.writeLatch w).ix = s.ix := rfl
@[simp] theorem State.writeLatch_sp (w : Word) : (s.writeLatch w).sp = s.sp := rfl
@[simp] theorem State.writeLatch_pc (w : Word) : (s.writeLatch w).pc = s.pc := rfl
@[simp] theorem State.writeLatch_latch (w : Word) : (s.writeLatch w).latch = w := rfl
@[simp] theorem State.writeLatch_i (w : Word) : (s.writeLatch w).i = s.i := rfl
@[simp] theorem State.writeLatch_im (w : Word) : (s.writeLatch w).im = s.im := rfl
@[simp] theorem State.writeLatch_iff (w : Word) : (s.writeLatch w).iff = s.iff := rfl
@[simp] theorem State.writeLatch_halted (w : Word) : (s.writeLatch w).halted = s.halted := rfl
@[simp] theorem State.writeLatch_powered (w : Word) : (s.writeLatch w).powered = s.powered := rfl
@[simp] theorem State.writeLatch_faulted (w : Word) : (s.writeLatch w).faulted = s.faulted := rfl
@[simp] theorem State.writeLatch_cycles (w : Word) : (s.writeLatch w).cycles = s.cycles := rfl
@[simp] theorem State.writeLatch_resetLine (w : Word) : (s.writeLatch w).resetLine = s.resetLine := rfl
@[simp] theorem State.writeLatch_nmiLine (w : Word) : (s.writeLatch w).nmiLine = s.nmiLine := rfl
@[simp] theorem State.writeLatch_intLine (w : Word) : (s.writeLatch w).intLine = s.intLine := rfl
@[simp] theorem State.writeLatch_intData (w : Word) : (s.writeLatch w).intData = s.intData := rfl
@[simp] theorem State.writeLatch_address (w : Word) : (s.writeLatch w).address = s.address := rfl
@[simp] theorem State.writeLatch_data (w : Word) : (s.writeLatch w).data = s.data := rfl
@[simp] theorem State.writeLatch_pfx (w : Word) : (s.writeLatch w).pfx = s.pfx := rfl
@[simp] theorem State.writeLatch_mem (w : Word) : (s.writeLatch w).mem = s.mem := rfl
@[simp] theorem State.writeLatch_map (w : Word) : (s.writeLatch w).map = s.map := rfl
@[simp] theorem State.writeLatch_trace (w : Word) : (s.writeLatch w).trace = s.trace := rfl
@[simp] theorem State.writeLatch_events (w : Word) : (s.writeLatch w).events = s.events := rfl
@[simp] theorem State.writeLatch_hooks (w : Word) : (s.writeLatch w).hooks = s.hooks := rfl
@[simp] theorem State.writeLatch_portIn (w : Word) : (s.writeLatch w).portIn = s.portIn := rfl
@[simp] theorem State.writeLatch_draws (w : Word) : (s.writeLatch w).draws = s.draws := rfl

/-! `State.writeI` -/
@[simp] theorem State.writeI_af (v : Byte) : (s.writeI v).af = s.af := rfl
@[simp] theorem State.writeI_bc (v : Byte) : (s.writeI v).bc = s.bc := rfl
@[simp] theorem State.writeI_de (v : Byte) : (s.writeI v).de = s.de := rfl
@[simp] theorem State.writeI_hl (v : Byte) : (s.writeI v).hl = s.hl := rfl
@[simp] theorem State.writeI_afAlt (v : Byte) : (s.writeI v).afAlt = s.afAlt := rfl
@[simp] theorem State.writeI_bcAlt (v : Byte) : (s.writeI v).bcAlt = s.bcAlt := rfl
@[simp] theorem State.writeI_deAlt (v : Byte) : (s.writeI v).deAlt = s.deAlt := rfl
@[simp] theorem State.writeI_hlAlt (v : Byte) : (s.writeI v).hlAlt = s.hlAlt := rfl
@[simp] theorem State.writeI_ix (v : Byte) : (s.writeI v).ix = s.ix := rfl
@[simp] theorem State.writeI_sp (v : Byte) : (s.writeI v).sp = s.sp := rfl
@[simp] theorem State.writeI_pc (v : Byte) : (s.writeI v).pc = s.pc := rfl
@[simp] theorem State.writeI_latch (v : Byte) : (s.writeI v).latch = s.latch := rfl
@[simp] theorem State.writeI_i (v : Byte) : (s.writeI v).i = v := rfl
@[simp] theorem State.writeI_im (v : Byte) : (s.writeI v).im = s.im := rfl
@[simp] theorem State.writeI_iff (v : Byte) : (s.writeI v).iff = s.iff := rfl
@[simp] theorem State.writeI_halted (v : Byte) : (s.writeI v).halted = s.halted := rfl
@[simp] theorem State.writeI_powered (v : Byte) : (s.writeI v).powered = s.powered := rfl
@[simp] theorem State.writeI_faulted (v : Byte) : (s.writeI v).faulted = s.faulted := rfl
@[simp] theorem State.writeI_cycles (v : Byte) : (s.writeI v).cycles = s.cycles := rfl
@[simp] theorem State.writeI_resetLine (v : Byte) : (s.writeI v).resetLine = s.resetLine := rfl
@[simp] theorem State.writeI_nmiLine (v : Byte) : (s.writeI v).nmiLine = s.nmiLine := rfl
@[simp] theorem State.writeI_intLine (v : Byte) : (s.writeI v).intLine = s.intLine := rfl
@[simp] theorem State.writeI_intData (v : Byte) : (s.writeI v).intData = s.intData := rfl
@[simp] theorem State.writeI_address (v : Byte) : (s.writeI v).address = s.address := rfl
@[simp] theorem State.writeI_data (v : Byte) : (s.writeI v).data = s.data := rfl
@[simp] theorem State.writeI_pfx (v : Byte) : (s.writeI v).pfx = s.pfx := rfl
@[simp] theorem State.writeI_mem (v : Byte) : (s.writeI v).mem = s.mem := rfl
@[simp] theorem State.writeI_map (v : Byte) : (s.writeI v).map = s.map := rfl
@[simp] theorem State.writeI_trace (v : Byte) : (s.writeI v).trace = s.trace := rfl
@[simp] theorem State.writeI_events (v : Byte) : (s.writeI v).events = s.events := rfl
@[simp] theorem State.writeI_hooks (v : Byte) : (s.writeI v).hooks = s.hooks := rfl
@[simp] theorem State.writeI_portIn (v : Byte) : (s.writeI v).portIn = s.portIn := rfl
@[simp] theorem State.writeI_draws (v : Byte) : (s.writeI v).draws = s.draws := rfl

/-! `State.writeIM` -/
@[simp] theorem State.writeIM_af (m : IntMode) : (s.writeIM m).af = s.af := rfl
@[simp] theorem State.writeIM_bc (m : IntMode) : (s.writeIM m).bc = s.bc := rfl
@[simp] theorem State.writeIM_de (m : IntMode) : (s.writeIM m).de = s.de := rfl
@[simp] theorem State.writeIM_hl (m : IntMode) : (s.writeIM m).hl = s.hl := rfl
@[simp] theorem State.writeIM_afAlt (m : IntMode) : (s.writeIM m).afAlt = s.afAlt := rfl
@[simp] theorem State.writeIM_bcAlt (m : IntMode) : (s.writeIM m).bcAlt = s.bcAlt := rfl
@[simp] theorem State.writeIM_deAlt (m : IntMode) : (s.writeIM m).deAlt = s.deAlt := rfl
@[simp] theorem State.writeIM_hlAlt (m : IntMode) : (s.writeIM m).hlAlt = s.hlAlt := rfl
@[simp] theorem State.writeIM_ix (m : IntMode) : (s.writeIM m).ix = s.ix := rfl
@[simp] theorem State.writeIM_sp (m : IntMode) : (s.writeIM m).sp = s.sp := rfl
@[simp] theorem State.writeIM_pc (m : IntMode) : (s.writeIM m).pc = s.pc := rfl
@[simp] theorem State.writeIM_latch (m : IntMode) : (s.writeIM m).latch = s.latch := rfl
@[simp] theorem State.writeIM_i (m : IntMode) : (s.writeIM m).i = s.i := rfl
@[simp] theorem State.writeIM_im (m : IntMode) : (s.writeIM m).im = m := rfl
@[simp] theorem State.writeIM_iff (m : IntMode) : (s.writeIM m).iff = s.iff := rfl
@[simp] theorem State.writeIM_halted (m : IntMode) : (s.writeIM m).halted = s.halted := rfl
@[simp] theorem State.writeIM_powered (m : IntMode) : (s.writeIM m).powered = s.powered := rfl
@[simp] theorem State.writeIM_faulted (m : IntMode) : (s.writeIM m).faulted = s.faulted := rfl
@[simp] theorem State.writeIM_cycles (m : IntMode) : (s.writeIM m).cycles = s.cycles := rfl
@[simp] theorem State.writeIM_resetLine (m : IntMode) : (s.writeIM m).resetLine = s.resetLine := rfl
@[simp] theorem State.writeIM_nmiLine (m : IntMode) : (s.writeIM m).nmiLine = s.nmiLine := rfl
@[simp] theorem State.writeIM_intLine (m : IntMode) : (s.writeIM m).intLine = s.intLine := rfl
@[simp] theorem State.writeIM_intData (m : IntMode) : (s.writeIM m).intData = s.intData := rfl
@[simp] theorem State.writeIM_address (m : IntMode) : (s.writeIM m).address = s.address := rfl
@[simp] theorem State.writeIM_data (m : IntMode) : (s.writeIM m).data = s.data := rfl
@[simp] theorem State.writeIM_pfx (m : IntMode) : (s.writeIM m).pfx = s.pfx := rfl
@[simp] theorem State.writeIM_mem (m : IntMode) : (s.writeIM m).mem = s.mem := rfl
@[simp] theorem State.writeIM_map (m : IntMode) : (s.writeIM m).map = s.map := rfl
@[simp] theorem State.writeIM_trace (m : IntMode) : (s.writeIM m).trace = s.trace := rfl
@[simp] theorem State.writeIM_events (m : IntMode) : (s.writeIM m).events = s.events := rfl
@[simp] theorem State.writeIM_hooks (m : IntMode) : (s.writeIM m).hooks = s.hooks := rfl
@[simp] theorem State.writeIM_portIn (m : IntMode) : (s.writeIM m).portIn = s.portIn := rfl
@[simp] theorem State.writeIM_draws (m : IntMode) : (s.writeIM m).draws = s.draws := rfl

/-! `State.writeIFF` -/
@[simp] theorem State.writeIFF_af (b : Bool) : (s.writeIFF b).af = s.af := rfl
@[simp] theorem State.writeIFF_bc (b : Bool) : (s.writeIFF b).bc = s.bc := rfl
@[simp] theorem State.writeIFF_de (b : Bool) : (s.writeIFF b).de = s.de := rfl
@[simp] theorem State.writeIFF_hl (b : Bool) : (s.writeIFF b).hl = s.hl := rfl
@[simp] theorem State.writeIFF_afAlt (b : Bool) : (s.writeIFF b).afAlt = s.afAlt := rfl
@[simp] theorem State.writeIFF_bcAlt (b : Bool) : (s.writeIFF b).bcAlt = s.bcAlt := rfl
@[simp] theorem State.writeIFF_deAlt (b : Bool) : (s.writeIFF b).deAlt = s.deAlt := rfl
@[simp] theorem State.writeIFF_hlAlt (b : Bool) : (s.writeIFF b).hlAlt = s.hlAlt := rfl
@[simp] theorem State.writeIFF_ix (b : Bool) : (s.writeIFF b).ix = s.ix := rfl
@[simp] theorem State.writeIFF_sp (b : Bool) : (s.writeIFF b).sp = s.sp := rfl
@[simp] theorem State.writeIFF_pc (b : Bool) : (s.writeIFF b).pc = s.pc := rfl
@[simp] theorem State.writeIFF_latch (b : Bool) : (s.writeIFF b).latch = s.latch := rfl
@[simp] theorem State.writeIFF_i (b : Bool) : (s.writeIFF b).i = s.i := rfl
@[simp] theorem State.writeIFF_im (b : Bool) : (s.writeIFF b).im = s.im := rfl
@[simp] theorem State.writeIFF_iff (b : Bool) : (s.writeIFF b).iff = b := rfl
@[simp] theorem State.writeIFF_halted (b : Bool) : (s.writeIFF b).halted = s.halted := rfl
@[simp] theorem State.writeIFF_powered (b : Bool) : (s.writeIFF b).powered = s.powered := rfl
@[simp] theorem State.writeIFF_faulted (b : Bool) : (s.writeIFF b).faulted = s.faulted := rfl
@[simp] theorem State.writeIFF_cycles (b : Bool) : (s.writeIFF b).cycles = s.cycles := rfl
@[simp] theorem State.writeIFF_resetLine (b : Bool) : (s.writeIFF b).resetLine = s.resetLine := rfl
@[simp] theorem State.writeIFF_nmiLine (b : Bool) : (s.writeIFF b).nmiLine = s.nmiLine := rfl
@[simp] theorem State.writeIFF_intLine (b : Bool) : (s.writeIFF b).intLine = s.intLine := rfl
@[simp] theorem State.writeIFF_intData (b : Bool) : (s.writeIFF b).intData = s.intData := rfl
@[simp] theorem State.writeIFF_address (b : Bool) : (s.writeIFF b).address = s.address := rfl
@[simp] theorem State.writeIFF_data (b : Bool) : (s.writeIFF b).data = s.data := rfl
@[simp] theorem State.writeIFF_pfx (b : Bool) : (s.writeIFF b).pfx = s.pfx := rfl
@[simp] theorem State.writeIFF_mem (b : Bool) : (s.writeIFF b).mem = s.mem := rfl
@[simp] theorem State.writeIFF_map (b : Bool) : (s.writeIFF b).map = s.map := rfl
@[simp] theorem State.writeIFF_trace (b : Bool) : (s.writeIFF b).trace = s.trace := rfl
@[simp] theorem State.writeIFF_events (b : Bool) : (s.writeIFF b).events = s.events := rfl
@[simp] theorem State.writeIFF_hooks (b : Bool) : (s.writeIFF b).hooks = s.hooks := rfl
@[simp] theorem State.writeIFF_portIn (b : Bool) : (s.writeIFF b).portIn = s.portIn := rfl
@[simp] theorem State.writeIFF_draws (b : Bool) : (s.writeIFF b).draws = s.draws := rfl

/-! `State.writeHalted` -/
@[simp] theorem State.writeHalted_af (b : Bool) : (s.writeHalted b).af = s.af := rfl
@[simp] theorem State.writeHalted_bc (b : Bool) : (s.writeHalted b).bc = s.bc := rfl
@[simp] theorem State.writeHalted_de (b : Bool) : (s.writeHalted b).de = s.de := rfl
@[simp] theorem State.writeHalted_hl (b : Bool) : (s.writeHalted b).hl = s.hl := rfl
@[simp] theorem State.writeHalted_afAlt (b : Bool) : (s.writeHalted b).afAlt = s.afAlt := rfl
@[simp] theorem State.writeHalted_bcAlt (b : Bool) : (s.writeHalted b).bcAlt = s.bcAlt := rfl
@[simp] theorem State.writeHalted_deAlt (b : Bool) : (s.writeHalted b).deAlt = s.deAlt := rfl
@[simp] theorem State.writeHalted_hlAlt (b : Bool) : (s.writeHalted b).hlAlt = s.hlAlt := rfl
@[simp] theorem State.writeHalted_ix (b : Bool) : (s.writeHalted b).ix = s.ix := rfl
@[simp] theorem State.writeHalted_sp (b : Bool) : (s.writeHalted b).sp = s.sp := rfl
@[simp] theorem State.writeHalted_pc (b : Bool) : (s.writeHalted b).pc = s.pc := rfl
@[simp] theorem State.writeHalted_latch (b : Bool) : (s.writeHalted b).latch = s.latch := rfl
@[simp] theorem State.writeHalted_i (b : Bool) : (s.writeHalted b).i = s.i := rfl
@[simp] theorem State.writeHalted_im (b : Bool) : (s.writeHalted b).im = s.im := rfl
@[simp] theorem State.writeHalted_iff (b : Bool) : (s.writeHalted b).iff = s.iff := rfl
@[simp] theorem State.writeHalted_halted (b : Bool) : (s.writeHalted b).halted = b := rfl
@[simp] theorem State.writeHalted_powered (b : Bool) : (s.writeHalted b).powered = s.powered := rfl
@[simp] theorem State.writeHalted_faulted (b : Bool) : (s.writeHalted b).faulted = s.faulted := rfl
@[simp] theorem State.writeHalted_cycles (b : Bool) : (s.writeHalted b).cycles = s.cycles := rfl
@[simp] theorem State.writeHalted_resetLine (b : Bool) : (s.writeHalted b).resetLine = s.resetLine := rfl
@[simp] theorem State.writeHalted_nmiLine (b : Bool) : (s.writeHalted b).nmiLine = s.nmiLine := rfl
@[simp] theorem State.writeHalted_intLine (b : Bool) : (s.writeHalted b).intLine = s.intLine := rfl
@[simp] theorem State.writeHalted_intData (b : Bool) : (s.writeHalted b).intData = s.intData := rfl
@[simp] theorem State.writeHalted_address (b : Bool) : (s.writeHalted b).address = s.address := rfl
@[simp] theorem State.writeHalted_data (b : Bool) : (s.writeHalted b).data = s.data := rfl
@[simp] theorem State.writeHalted_pfx (b : Bool) : (s.writeHalted b).pfx = s.pfx := rfl
@[simp] theorem State.writeHalted_mem (b : Bool) : (s.writeHalted b).mem = s.mem := rfl
@[simp] theorem State.writeHalted_map (b : Bool) : (s.writeHalted b).map = s.map := rfl
@[simp] theorem State.writeHalted_trace (b : Bool) : (s.writeHalted b).trace = s.trace := rfl
@[simp] theorem State.writeHalted_events (b : Bool) : (s.writeHalted b).events = s.events := rfl
@[simp] theorem State.writeHalted_hooks (b : Bool) : (s.writeHalted b).hooks = s.hooks := rfl
@[simp] theorem State.writeHalted_portIn (b : Bool) : (s.writeHalted b).portIn = s.portIn := rfl
@[simp] theorem State.writeHalted_draws (b : Bool) : (s.writeHalted b).draws = s.draws := rfl

/-! `State.writePfx` -/
@[simp] theorem State.writePfx_af (p : PrefixState) : (s.writePfx p).af = s.af := rfl
@[simp] theorem State.writePfx_bc (p : PrefixState) : (s.writePfx p).bc = s.bc := rfl
@[simp] theorem State.writePfx_de (p : PrefixState) : (s.writePfx p).de = s.de := rfl
@[simp] theorem State.writePfx_hl (p : PrefixState) : (s.writePfx p).hl = s.hl := rfl
@[simp] theorem State.writePfx_afAlt (p : PrefixState) : (s.writePfx p).afAlt = s.afAlt := rfl
@[simp] theorem State.writePfx_bcAlt (p : PrefixState) : (s.writePfx p).bcAlt = s.bcAlt := rfl
@[simp] theorem State.writePfx_deAlt (p : PrefixState) : (s.writePfx p).deAlt = s.deAlt := rfl
@[simp] theorem State.writePfx_hlAlt (p : PrefixState) : (s.writePfx p).hlAlt = s.hlAlt := rfl
@[simp] theorem State.writePfx_ix (p : PrefixState) : (s.writePfx p).ix = s.ix := rfl
@[simp] theorem State.writePfx_sp (p : PrefixState) : (s.writePfx p).sp = s.sp := rfl
@[simp] theorem State.writePfx_pc (p : PrefixState) : (s.writePfx p).pc = s.pc := rfl
@[simp] theorem State.writePfx_latch (p : PrefixState) : (s.writePfx p).latch = s.latch := rfl
@[simp] theorem State.writePfx_i (p : PrefixState) : (s.writePfx p).i = s.i := rfl
@[simp] theorem State.writePfx_im (p : PrefixState) : (s.writePfx p).im = s.im := rfl
@[simp] theorem State.writePfx_iff (p : PrefixState) : (s.writePfx p).iff = s.iff := rfl
@[simp] theorem State.writePfx_halted (p : PrefixState) : (s.writePfx p).halted = s.halted := rfl
@[simp] theorem State.writePfx_powered (p : PrefixState) : (s.writePfx p).powered = s.powered := rfl
@[simp] theorem State.writePfx_faulted (p : PrefixState) : (s.writePfx p).faulted = s.faulted := rfl
@[simp] theorem State.writePfx_cycles (p : PrefixState) : (s.writePfx p).cycles = s.cycles := rfl
@[simp] theorem State.writePfx_resetLine (p : PrefixState) : (s.writePfx p).resetLine = s.resetLine := rfl
@[simp] theorem State.writePfx_nmiLine (p : PrefixState) : (s.writePfx p).nmiLine = s.nmiLine := rfl
@[simp] theorem State.writePfx_intLine (p : PrefixState) : (s.writePfx p).intLine = s.intLine := rfl
@[simp] theorem State.writePfx_intData (p : PrefixState) : (s.writePfx p).intData = s.intData := rfl
@[simp] theorem State.writePfx_address (p : PrefixState) : (s.writePfx p).address = s.address := rfl
@[simp] theorem State.writePfx_data (p : PrefixState) : (s.writePfx p).data = s.data := rfl
@[simp] theorem State.writePfx_pfx (p : PrefixState) : (s.writePfx p).pfx = p := rfl
@[simp] theorem State.writePfx_mem (p : PrefixState) : (s.writePfx p).mem = s.mem := rfl
@[simp] theorem State.writePfx_map (p : PrefixState) : (s.writePfx p).map = s.map := rfl
@[simp] theorem State.writePfx_trace (p : PrefixState) : (s.writePfx p).trace = s.trace := rfl
@[simp] theorem State.writePfx_events (p : PrefixState) : (s.writePfx p).events = s.events := rfl
@[simp] theorem State.writePfx_hooks (p : PrefixState) : (s.writePfx p).hooks = s.hooks := rfl
@[simp] theorem State.writePfx_portIn (p : PrefixState) : (s.writePfx p).portIn = s.portIn := rfl
@[simp] theorem State.writePfx_draws (p : PrefixState) : (s.writePfx p).draws = s.draws := rfl

/-! `State.exchangeAF` -/
@[simp] theorem State.exchangeAF_af : s.exchangeAF.af = s.afAlt := rfl
@[simp] theorem State.exchangeAF_bc : s.exchangeAF.bc = s.bc := rfl
@[simp] theorem State.exchangeAF_de : s.exchangeAF.de = s.de := rfl
@[simp] theorem State.exchangeAF_hl : s.exchangeAF.hl = s.hl := rfl
@[simp] theorem State.exchangeAF_afAlt : s.exchangeAF.afAlt = s.af := rfl
@[simp] theorem State.exchangeAF_bcAlt : s.exchangeAF.bcAlt = s.bcAlt := rfl
@[simp] theorem State.exchangeAF_deAlt : s.exchangeAF.deAlt = s.deAlt := rfl
@[simp] theorem State.exchangeAF_hlAlt : s.exchangeAF.hlAlt = s.hlAlt := rfl
@[simp] theorem State.exchangeAF_ix : s.exchangeAF.ix = s.ix := rfl
@[simp] theorem State.exchangeAF_sp : s.exchangeAF.sp = s.sp := rfl
@[simp] theorem State.exchangeAF_pc : s.exchangeAF.pc = s.pc := rfl
@[simp] theorem State.exchangeAF_latch : s.exchangeAF.latch = s.latch := rfl
@[simp] theorem State.exchangeAF_i : s.exchangeAF.i = s.i := rfl
@[simp] theorem State.exchangeAF_im : s.exchangeAF.im = s.im := rfl
@[simp] theorem State.exchangeAF_iff : s.exchangeAF.iff = s.iff := rfl
@[simp] theorem State.exchangeAF_halted : s.exchangeAF.halted = s.halted := rfl
@[simp] theorem State.exchangeAF_powered : s.exchangeAF.powered = s.powered := rfl
@[simp] theorem State.exchangeAF_faulted : s.exchangeAF.faulted = s.faulted := rfl
@[simp] theorem State.exchangeAF_cycles : s.exchangeAF.cycles = s.cycles := rfl
@[simp] theorem State.exchangeAF_resetLine : s.exchangeAF.resetLine = s.resetLine := rfl
@[simp] theorem State.exchangeAF_nmiLine : s.exchangeAF.nmiLine = s.nmiLine := rfl
@[simp] theorem State.exchangeAF_intLine : s.exchangeAF.intLine = s.intLine := rfl
@[simp] theorem State.exchangeAF_intData : s.exchangeAF.intData = s.intData := rfl
@[simp] theorem State.exchangeAF_address : s.exchangeAF.address = s.address := rfl
@[simp] theorem State.exchangeAF_data : s.exchangeAF.data = s.data := rfl
@[simp] theorem State.exchangeAF_pfx : s.exchangeAF.pfx = s.pfx := rfl
@[simp] theorem State.exchangeAF_mem : s.exchangeAF.mem = s.mem := rfl
@[simp] theorem State.exchangeAF_map : s.exchangeAF.map = s.map := rfl
@[simp] theorem State.exchangeAF_trace : s.exchangeAF.trace = s.trace := rfl
@[simp] theorem State.exchangeAF_events : s.exchangeAF.events = s.events := rfl
@[simp] theorem State.exchangeAF_hooks : s.exchangeAF.hooks = s.hooks := rfl
@[simp] theorem State.exchangeAF_portIn : s.exchangeAF.portIn = s.portIn := rfl
@[simp] theorem State.exchangeAF_draws : s.exchangeAF.draws = s.draws := rfl

/-! `State.exchangeBank` -/
@[simp] theorem State.exchangeBank_af : s.exchangeBank.af = s.af := rfl
@[simp] theorem State.exchangeBank_bc : s.exchangeBank.bc = s.bcAlt := rfl
@[simp] theorem State.exchangeBank_de : s.exchangeBank.de = s.deAlt := rfl
@[simp] theorem State.exchangeBank_hl : s.exchangeBank.hl = s.hlAlt := rfl
@[simp] theorem State.exchangeBank_afAlt : s.exchangeBank.afAlt = s.afAlt := rfl
@[simp] theorem State.exchangeBank_bcAlt : s.exchangeBank.bcAlt = s.bc := rfl
@[simp] theorem State.exchangeBank_deAlt : s.exchangeBank.deAlt = s.de := rfl
@[simp] theorem State.exchangeBank_hlAlt : s.exchangeBank.hlAlt = s.hl := rfl
@[simp] theorem State.exchangeBank_ix : s.exchangeBank.ix = s.ix := rfl
@[simp] theorem State.exchangeBank_sp : s.exchangeBank.sp = s.sp := rfl
@[simp] theorem State.exchangeBank_pc : s.exchangeBank.pc = s.pc := rfl
@[simp] theorem State.exchangeBank_latch : s.exchangeBank.latch = s.latch := rfl
@[simp] theorem State.exchangeBank_i : s.exchangeBank.i = s.i := rfl
@[simp] theorem State.exchangeBank_im : s.exchangeBank.im = s.im := rfl
@[simp] theorem State.exchangeBank_iff : s.exchangeBank.iff = s.iff := rfl
@[simp] theorem State.exchangeBank_halted : s.exchangeBank.halted = s.halted := rfl
@[simp] theorem State.exchangeBank_powered : s.exchangeBank.powered = s.powered := rfl
@[simp] theorem State.exchangeBank_faulted : s.exchangeBank.faulted = s.faulted := rfl
@[simp] theorem State.exchangeBank_cycles : s.exchangeBank.cycles = s.cycles := rfl
@[simp] theorem State.exchangeBank_resetLine : s.exchangeBank.resetLine = s.resetLine := rfl
@[simp] theorem State.exchangeBank_nmiLine : s.exchangeBank.nmiLine = s.nmiLine := rfl
@[simp] theorem State.exchangeBank_intLine : s.exchangeBank.intLine = s.intLine := rfl
@[simp] theorem State.exchangeBank_intData : s.exchangeBank.intData = s.intData := rfl
@[simp] theorem State.exchangeBank_address : s.exchangeBank.address = s.address := rfl
@[simp] theorem State.exchangeBank_data : s.exchangeBank.data = s.data := rfl
@[simp] theorem State.exchangeBank_pfx : s.exchangeBank.pfx = s.pfx := rfl
@[simp] theorem State.exchangeBank_mem : s.exchangeBank.mem = s.mem := rfl
@[simp] theorem State.exchangeBank_map : s.exchangeBank.map = s.map := rfl
@[simp] theorem State.exchangeBank_trace : s.exchangeBank.trace = s.trace := rfl
@[simp] theorem State.exchangeBank_events : s.exchangeBank.events = s.events := rfl
@[simp] theorem State.exchangeBank_hooks : s.exchangeBank.hooks = s.hooks := rfl
@[simp] theorem State.exchangeBank_portIn : s.exchangeBank.portIn = s.portIn := rfl
@[simp] theorem State.exchangeBank_draws : s.exchangeBank.draws = s.draws := rfl

/-! `State.writeAddress` -/
@[simp] theorem State.writeAddress_af (a : Word) : (s.writeAddress a).af = s.af := rfl
@[simp] theorem State.writeAddress_bc (a : Word) : (s.writeAddress a).bc = s.bc := rfl
@[simp] theorem State.writeAddress_de (a : Word) : (s.writeAddress a).de = s.de := rfl
@[simp] theorem State.writeAddress_hl (a : Word) : (s.writeAddress a).hl = s.hl := rfl
@[simp] theorem State.writeAddress_afAlt (a : Word) : (s.writeAddress a).afAlt = s.afAlt := rfl
@[simp] theorem State.writeAddress_bcAlt (a : Word) : (s.writeAddress a).bcAlt = s.bcAlt := rfl
@[simp] theorem State.writeAddress_deAlt (a : Word) : (s.writeAddress a).deAlt = s.deAlt := rfl
@[simp] theorem State.writeAddress_hlAlt (a : Word) : (s.writeAddress a).hlAlt = s.hlAlt := rfl
@[simp] theorem State.writeAddress_ix (a : Word) : (s.writeAddress a).ix = s.ix := rfl
@[simp] theorem State.writeAddress_sp (a : Word) : (s.writeAddress a).sp = s.sp := rfl
@[simp] theorem State.writeAddress_pc (a : Word) : (s.writeAddress a).pc = s.pc := rfl
@[simp] theorem State.writeAddress_latch (a : Word) : (s.writeAddress a).latch = s.latch := rfl
@[simp] theorem State.writeAddress_i (a : Word) : (s.writeAddress a).i = s.i := rfl
@[simp] theorem State.writeAddress_im (a : Word) : (s.writeAddress a).im = s.im := rfl
@[simp] theorem State.writeAddress_iff (a : Word) : (s.writeAddress a).iff = s.iff := rfl
@[simp] theorem State.writeAddress_halted (a : Word) : (s.writeAddress a).halted = s.halted := rfl
@[simp] theorem State.writeAddress_powered (a : Word) : (s.writeAddress a).powered = s.powered := rfl
@[simp] theorem State.writeAddress_faulted (a : Word) : (s.writeAddress a).faulted = s.faulted := rfl
@[simp] theorem State.writeAddress_cycles (a : Word) : (s.writeAddress a).cycles = s.cycles := rfl
@[simp] theorem State.writeAddress_resetLine (a : Word) : (s.writeAddress a).resetLine = s.resetLine := rfl
@[simp] theorem State.writeAddress_nmiLine (a : Word) : (s.writeAddress a).nmiLine = s.nmiLine := rfl
@[simp] theorem State.writeAddress_intLine (a : Word) : (s.writeAddress a).intLine = s.intLine := rfl
@[simp] theorem State.writeAddress_intData (a : Word) : (s.writeAddress a).intData = s.intData := rfl
@[simp] theorem State.writeAddress_address (a : Word) : (s.writeAddress a).address = a := rfl
@[simp] theorem State.writeAddress_data (a : Word) : (s.writeAddress a).data = s.data := rfl
@[simp] theorem State.writeAddress_pfx (a : Word) : (s.writeAddress a).pfx = s.pfx := rfl
@[simp] theorem State.writeAddress_mem (a : Word) : (s.writeAddress a).mem = s.mem := rfl
@[simp] theorem State.writeAddress_map (a : Word) : (s.writeAddress a).map = s.map := rfl
@[simp] theorem State.writeAddress_trace (a : Word) : (s.writeAddress a).trace = s.trace := rfl
@[simp] theorem State.writeAddress_events (a : Word) : (s.writeAddress a).events = s.events := rfl
@[simp] theorem State.writeAddress_hooks (a : Word) : (s.writeAddress a).hooks = s.hooks := rfl
@[simp] theorem State.writeAddress_portIn (a : Word) : (s.writeAddress a).portIn = s.portIn := rfl
@[simp] theorem State.writeAddress_draws (a : Word) : (s.writeAddress a).draws = s.draws := rfl

/-! `State.writeData` -/
@[simp] theorem State.writeData_af (v : Byte) : (s.writeData v).af = s.af := rfl
@[simp] theorem State.writeData_bc (v : Byte) : (s.writeData v).bc = s.bc := rfl
@[simp] theorem State.writeData_de (v : Byte) : (s.writeData v).de = s.de := rfl
@[simp] theorem State.writeData_hl (v : Byte) : (s.writeData v).hl = s.hl := rfl
@[simp] theorem State.writeData_afAlt (v : Byte) : (s.writeData v).afAlt = s.afAlt := rfl
@[simp] theorem State.writeData_bcAlt (v : Byte) : (s.writeData v).bcAlt = s.bcAlt := rfl
@[simp] theorem State.writeData_deAlt (v : Byte) : (s.writeData v).deAlt = s.deAlt := rfl
@[simp] theorem State.writeData_hlAlt (v : Byte) : (s.writeData v).hlAlt = s.hlAlt := rfl
@[simp] theorem State.writeData_ix (v : Byte) : (s.writeData v).ix = s.ix := rfl
@[simp] theorem State.writeData_sp (v : Byte) : (s.writeData v).sp = s.sp := rfl
@[simp] theorem State.writeData_pc (v : Byte) : (s.writeData v).pc = s.pc := rfl
@[simp] theorem State.writeData_latch (v : Byte) : (s.writeData v).latch = s.latch := rfl
@[simp] theorem State.writeData_i (v : Byte) : (s.writeData v).i = s.i := rfl
@[simp] theorem State.writeData_im (v : Byte) : (s.writeData v).im = s.im := rfl
@[simp] theorem State.writeData_iff (v : Byte) : (s.writeData v).iff = s.iff := rfl
@[simp] theorem State.writeData_halted (v : Byte) : (s.writeData v).halted = s.halted := rfl
@[simp] theorem State.writeData_powered (v : Byte) : (s.writeData v).powered = s.powered := rfl
@[simp] theorem State.writeData_faulted (v : Byte) : (s.writeData v).faulted = s.faulted := rfl
@[simp] theorem State.writeData_cycles (v : Byte) : (s.writeData v).cycles = s.cycles := rfl
@[simp] theorem State.writeData_resetLine (v : Byte) : (s.writeData v).resetLine = s.resetLine := rfl
@[simp] theorem State.writeData_nmiLine (v : Byte) : (s.writeData v).nmiLine = s.nmiLine := rfl
@[simp] theorem State.writeData_intLine (v : Byte) : (s.writeData v).intLine = s.intLine := rfl
@[simp] theorem State.writeData_intData (v : Byte) : (s.writeData v).intData = s.intData := rfl
@[simp] theorem State.writeData_address (v : Byte) : (s.writeData v).address = s.address := rfl
@[simp] theorem State.writeData_data (v : Byte) : (s.writeData v).data = v := rfl
@[simp] theorem State.writeData_pfx (v : Byte) : (s.writeData v).pfx = s.pfx := rfl
@[simp] theorem State.writeData_mem (v : Byte) : (s.writeData v).mem = s.mem := rfl
@[simp] theorem State.writeData_map (v : Byte) : (s.writeData v).map = s.map := rfl
@[simp] theorem State.writeData_trace (v : Byte) : (s.writeData v).trace = s.trace := rfl
@[simp] theorem State.writeData_events (v : Byte) : (s.writeData v).events = s.events := rfl
@[simp] theorem State.writeData_hooks (v : Byte) : (s.writeData v).hooks = s.hooks := rfl
@[simp] theorem State.writeData_portIn (v : Byte) : (s.writeData v).portIn = s.portIn := rfl
@[simp] theorem State.writeData_draws (v : Byte) : (s.writeData v).draws = s.draws := rfl

/-! `State.writeMem` -/
@[simp] theorem State.writeMem_af (k : Nat) (v : Byte) : (s.writeMem k v).af = s.af := rfl
@[simp] theorem State.writeMem_bc (k : Nat) (v : Byte) : (s.writeMem k v).bc = s.bc := rfl
@[simp] theorem State.writeMem_de (k : Nat) (v : Byte) : (s.writeMem k v).de = s.de := rfl
@[simp] theorem State.writeMem_hl (k : Nat) (v : Byte) : (s.writeMem k v).hl = s.hl := rfl
@[simp] theorem State.writeMem_afAlt (k : Nat) (v : Byte) : (s.writeMem k v).afAlt = s.afAlt := rfl
@[simp] theorem State.writeMem_bcAlt (k : Nat) (v : Byte) : (s.writeMem k v).bcAlt = s.bcAlt := rfl
@[simp] theorem State.writeMem_deAlt (k : Nat) (v : Byte) : (s.writeMem k v).deAlt = s.deAlt := rfl
@[simp] theorem State.writeMem_hlAlt (k : Nat) (v : Byte) : (s.writeMem k v).hlAlt = s.hlAlt := rfl
@[simp] theorem State.writeMem_ix (k : Nat) (v : Byte) : (s.writeMem k v).ix = s.ix := rfl
@[simp] theorem State.writeMem_sp (k : Nat) (v : Byte) : (s.writeMem k v).sp = s.sp := rfl
@[simp] theorem State.writeMem_pc (k : Nat) (v : Byte) : (s.writeMem k v).pc = s.pc := rfl
@[simp] theorem State.writeMem_latch (k : Nat) (v : Byte) : (s.writeMem k v).latch = s.latch := rfl
@[simp] theorem State.writeMem_i (k : Nat) (v : Byte) : (s.writeMem k v).i = s.i := rfl
@[simp] theorem State.writeMem_im (k : Nat) (v : Byte) : (s.writeMem k v).im = s.im := rfl
@[simp] theorem State.writeMem_iff (k : Nat) (v : Byte) : (s.writeMem k v).iff = s.iff := rfl
@[simp] theorem State.writeMem_halted (k : Nat) (v : Byte) : (s.writeMem k v).halted = s.halted := rfl
@[simp] theorem State.writeMem_powered (k : Nat) (v : Byte) : (s.writeMem k v).powered = s.powered := rfl
@[simp] theorem State.writeMem_faulted (k : Nat) (v : Byte) : (s.writeMem k v).faulted = s.faulted := rfl
@[simp] theorem State.writeMem_cycles (k : Nat) (v : Byte) : (s.writeMem k v).cycles = s.cycles := rfl
@[simp] theorem State.writeMem_resetLine (k : Nat) (v : Byte) : (s.writeMem k v).resetLine = s.resetLine := rfl
@[simp] theorem State.writeMem_nmiLine (k : Nat) (v : Byte) : (s.writeMem k v).nmiLine = s.nmiLine := rfl
@[simp] theorem State.writeMem_intLine (k : Nat) (v : Byte) : (s.writeMem k v).intLine = s.intLine := rfl
@[simp] theorem State.writeMem_intData (k : Nat) (v : Byte) : (s.writeMem k v).intData = s.intData := rfl
@[simp] theorem State.writeMem_address (k : Nat) (v : Byte) : (s.writeMem k v).address = s.address := rfl
@[simp] theorem State.writeMem_data (k : Nat) (v : Byte) : (s.writeMem k v).data = s.data := rfl
@[simp] theorem State.writeMem_pfx (k : Nat) (v : Byte) : (s.writeMem k v).pfx = s.pfx := rfl
@[simp] theorem State.writeMem_mem (k : Nat) (v : Byte) : (s.writeMem k v).mem = Memory.write s.mem k v := rfl
@[simp] theorem State.writeMem_map (k : Nat) (v : Byte) : (s.writeMem k v).map = s.map := rfl
@[simp] theorem State.writeMem_trace (k : Nat) (v : Byte) : (s.writeMem k v).trace = s.trace := rfl
@[simp] theorem State.writeMem_events (k : Nat) (v : Byte) : (s.writeMem k v).events = s.events := rfl
@[simp] theorem State.writeMem_hooks (k : Nat) (v : Byte) : (s.writeMem k v).hooks = s.hooks := rfl
@[simp] theorem State.writeMem_portIn (k : Nat) (v : Byte) : (s.writeMem k v).portIn = s.portIn := rfl
@[simp] theorem State.writeMem_draws (k : Nat) (v : Byte) : (s.writeMem k v).draws = s.draws := rfl

/-! `State.record` -/
@[simp] theorem State.record_af (t : Transaction) : (s.record t).af = s.af := rfl
@[simp] theorem State.record_bc (t : Transaction) : (s.record t).bc = s.bc := rfl
@[simp] theorem State.record_de (t : Transaction) : (s.record t).de = s.de := rfl
@[simp] theorem State.record_hl (t : Transaction) : (s.record t).hl = s.hl := rfl
@[simp] theorem State.record_afAlt (t : Transaction) : (s.record t).afAlt = s.afAlt := rfl
@[simp] theorem State.record_bcAlt (t : Transaction) : (s.record t).bcAlt = s.bcAlt := rfl
@[simp] theorem State.record_deAlt (t : Transaction) : (s.record t).deAlt = s.deAlt := rfl
@[simp] theorem State.record_hlAlt (t : Transaction) : (s.record t).hlAlt = s.hlAlt := rfl
@[simp] theorem State.record_ix (t : Transaction) : (s.record t).ix = s.ix := rfl
@[simp] theorem State.record_sp (t : Transaction) : (s.record t).sp = s.sp := rfl
@[simp] theorem State.record_pc (t : Transaction) : (s.record t).pc = s.pc := rfl
@[simp] theorem State.record_latch (t : Transaction) : (s.record t).latch = s.latch := rfl
@[simp] theorem State.record_i (t : Transaction) : (s.record t).i = s.i := rfl
@[simp] theorem State.record_im (t : Transaction) : (s.record t).im = s.im := rfl
@[simp] theorem State.record_iff (t : Transaction) : (s.record t).iff = s.iff := rfl
@[simp] theorem State.record_halted (t : Transaction) : (s.record t).halted = s.halted := rfl
@[simp] theorem State.record_powered (t : Transaction) : (s.record t).powered = s.powered := rfl
@[simp] theorem State.record_faulted (t : Transaction) : (s.record t).faulted = s.faulted := rfl
@[simp] theorem State.record_cycles (t : Transaction) : (s.record t).cycles = s.cycles := rfl
@[simp] theorem State.record_resetLine (t : Transaction) : (s.record t).resetLine = s.resetLine := rfl
@[simp] theorem State.record_nmiLine (t : Transaction) : (s.record t).nmiLine = s.nmiLine := rfl
@[simp] theorem State.record_intLine (t : Transaction) : (s.record t).intLine = s.intLine := rfl
@[simp] theorem State.record_intData (t : Transaction) : (s.record t).intData = s.intData := rfl
@[simp] theorem State.record_address (t : Transaction) : (s.record t).address = s.address := rfl
@[simp] theorem State.record_data (t : Transaction) : (s.record t).data = s.data := rfl
@[simp] theorem State.record_pfx (t : Transaction) : (s.record t).pfx = s.pfx := rfl
@[simp] theorem State.record_mem (t : Transaction) : (s.record t).mem = s.mem := rfl
@[simp] theorem State.record_map (t : Transaction) : (s.record t).map = s.map := rfl
@[simp] theorem State.record_trace (t : Transaction) : (s.record t).trace = s.trace ++ [t] := rfl
@[simp] theorem State.record_events (t : Transaction) : (s.record t).events = s.events := rfl
@[simp] theorem State.record_hooks (t : Transaction) : (s.record t).hooks = s.hooks := rfl
@[simp] theorem State.record_portIn (t : Transaction) : (s.record t).portIn = s.portIn := rfl
@[simp] theorem State.record_draws (t : Transaction) : (s.record t).draws = s.draws := rfl

/-! `State.emit` -/
@[simp] theorem State.emit_af (e : Event) : (s.emit e).af = s.af := rfl
@[simp] theorem State.emit_bc (e : Event) : (s.emit e).bc = s.bc := rfl
@[simp] theorem State.emit_de (e : Event) : (s.emit e).de = s.de := rfl
@[simp] theorem State.emit_hl (e : Event) : (s.emit e).hl = s.hl := rfl
@[simp] theorem State.emit_afAlt (e : Event) : (s.emit e).afAlt = s.afAlt := rfl
@[simp] theorem State.emit_bcAlt (e : Event) : (s.emit e).bcAlt = s.bcAlt := rfl
@[simp] theorem State.emit_deAlt (e : Event) : (s.emit e).deAlt = s.deAlt := rfl
@[simp] theorem State.emit_hlAlt (e : Event) : (s.emit e).hlAlt = s.hlAlt := rfl
@[simp] theorem State.emit_ix (e : Event) : (s.emit e).ix = s.ix := rfl
@[simp] theorem State.emit_sp (e : Event) : (s.emit e).sp = s.sp := rfl
@[simp] theorem State.emit_pc (e : Event) : (s.emit e).pc = s.pc := rfl
@[simp] theorem State.emit_latch (e : Event) : (s.emit e).latch = s.latch := rfl
@[simp] theorem State.emit_i (e : Event) : (s.emit e).i = s.i := rfl
@[simp] theorem State.emit_im (e : Event) : (s.emit e).im = s.im := rfl
@[simp] theorem State.emit_iff (e : Event) : (s.emit e).iff = s.iff := rfl
@[simp] theorem State.emit_halted (e : Event) : (s.emit e).halted = s.halted := rfl
@[simp] theorem State.emit_powered (e : Event) : (s.emit e).powered = s.powered := rfl
@[simp] theorem State.emit_faulted (e : Event) : (s.emit e).faulted = s.faulted := rfl
@[simp] theorem State.emit_cycles (e : Event) : (s.emit e).cycles = s.cycles := rfl
@[simp] theorem State.emit_resetLine (e : Event) : (s.emit e).resetLine = s.resetLine := rfl
@[simp] theorem State.emit_nmiLine (e : Event) : (s.emit e).nmiLine = s.nmiLine := rfl
@[simp] theorem State.emit_intLine (e : Event) : (s.emit e).intLine = s.intLine := rfl
@[simp] theorem State.emit_intData (e : Event) : (s.emit e).intData = s.intData := rfl
@[simp] theorem State.emit_address (e : Event) : (s.emit e).address = s.address := rfl
@[simp] theorem State.emit_data (e : Event) : (s.emit e).data = s.data := rfl
@[simp] theorem State.emit_pfx (e : Event) : (s.emit e).pfx = s.pfx := rfl
@[simp] theorem State.emit_mem (e : Event) : (s.emit e).mem = s.mem := rfl
@[simp] theorem State.emit_map (e : Event) : (s.emit e).map = s.map := rfl
@[simp] theorem State.emit_trace (e : Event) : (s.emit e).trace = s.trace := rfl
@[simp] theorem State.emit_events (e : Event) : (s.emit e).events = s.events ++ [e] := rfl
@[simp] theorem State.emit_hooks (e : Event) : (s.emit e).hooks = s.hooks := rfl
@[simp] theorem State.emit_portIn (e : Event) : (s.emit e).portIn = s.portIn := rfl
@[simp] theorem State.emit_draws (e : Event) : (s.emit e).draws = s.draws := rfl

/-! `State.writeMap` -/
@[simp] theorem State.writeMap_af (m : List Region) : (s.writeMap m).af = s.af := rfl
@[simp] theorem State.writeMap_bc (m : List Region) : (s.writeMap m).bc = s.bc := rfl
@[simp] theorem State.writeMap_de (m : List Region) : (s.writeMap m).de = s.de := rfl
@[simp] theorem State.writeMap_hl (m : List Region) : (s.writeMap m).hl = s.hl := rfl
@[simp] theorem State.writeMap_afAlt (m : List Region) : (s.writeMap m).afAlt = s.afAlt := rfl
@[simp] theorem State.writeMap_bcAlt (m : List Region) : (s.writeMap m).bcAlt = s.bcAlt := rfl
@[simp] theorem State.writeMap_deAlt (m : List Region) : (s.writeMap m).deAlt = s.deAlt := rfl
@[simp] theorem State.writeMap_hlAlt (m : List Region) : (s.writeMap m).hlAlt = s.hlAlt := rfl
@[simp] theorem State.writeMap_ix (m : List Region) : (s.writeMap m).ix = s.ix := rfl
@[simp] theorem State.writeMap_sp (m : List Region) : (s.writeMap m).sp = s.sp := rfl
@[simp] theorem State.writeMap_pc (m : List Region) : (s.writeMap m).pc = s.pc := rfl
@[simp] theorem State.writeMap_latch (m : List Region) : (s.writeMap m).latch = s.latch := rfl
@[simp] theorem State.writeMap_i (m : List Region) : (s.writeMap m).i = s.i := rfl
@[simp] theorem State.writeMap_im (m : List Region) : (s.writeMap m).im = s.im := rfl
@[simp] theorem State.writeMap_iff (m : List Region) : (s.writeMap m).iff = s.iff := rfl
@[simp] theorem State.writeMap_halted (m : List Region) : (s.writeMap m).halted = s.halted := rfl
@[simp] theorem State.writeMap_powered (m : List Region) : (s.writeMap m).powered = s.powered := rfl
@[simp] theorem State.writeMap_faulted (m : List Region) : (s.writeMap m).faulted = s.faulted := rfl
@[simp] theorem State.writeMap_cycles (m : List Region) : (s.writeMap m).cycles = s.cycles := rfl
@[simp] theorem State.writeMap_resetLine (m : List Region) : (s.writeMap m).resetLine = s.resetLine := rfl
@[simp] theorem State.writeMap_nmiLine (m : List Region) : (s.writeMap m).nmiLine = s.nmiLine := rfl
@[simp] theorem State.writeMap_intLine (m : List Region) : (s.writeMap m).intLine = s.intLine := rfl
@[simp] theorem State.writeMap_intData (m : List Region) : (s.writeMap m).intData = s.intData := rfl
@[simp] theorem State.writeMap_address (m : List Region) : (s.writeMap m).address = s.address := rfl
@[simp] theorem State.writeMap_data (m : List Region) : (s.writeMap m).data = s.data := rfl
@[simp] theorem State.writeMap_pfx (m : List Region) : (s.writeMap m).pfx = s.pfx := rfl
@[simp] theorem State.writeMap_mem (m : List Region) : (s.writeMap m).mem = s.mem := rfl
@[simp] theorem State.writeMap_map (m : List Region) : (s.writeMap m).map = m := rfl
@[simp] theorem State.writeMap_trace (m : List Region) : (s.writeMap m).trace = s.trace := rfl
@[simp] theorem State.writeMap_events (m : List Region) : (s.writeMap m).events = s.events := rfl
@[simp] theorem State.writeMap_hooks (m : List Region) : (s.writeMap m).hooks = s.hooks := rfl
@[simp] theorem State.writeMap_portIn (m : List Region) : (s.writeMap m).portIn = s.portIn := rfl
@[simp] theorem State.writeMap_draws (m : List Region) : (s.writeMap m).draws = s.draws := rfl

/-! `State.drive` -/
@[simp] theorem State.drive_af (line : Line) (b : Bool) : (s.drive line b).af = s.af := by cases line <;> rfl
@[simp] theorem State.drive_bc (line : Line) (b : Bool) : (s.drive line b).bc = s.bc := by cases line <;> rfl
@[simp] theorem State.drive_de (line : Line) (b : Bool) : (s.drive line b).de = s.de := by cases line <;> rfl
@[simp] theorem State.drive_hl (line : Line) (b : Bool) : (s.drive line b).hl = s.hl := by cases line <;> rfl
@[simp] theorem State.drive_afAlt (line : Line) (b : Bool) : (s.drive line b).afAlt = s.afAlt := by cases line <;> rfl
@[simp] theorem State.drive_bcAlt (line : Line) (b : Bool) : (s.drive line b).bcAlt = s.bcAlt := by cases line <;> rfl
@[simp] theorem State.drive_deAlt (line : Line) (b : Bool) : (s.drive line b).deAlt = s.deAlt := by cases line <;> rfl
@[simp] theorem State.drive_hlAlt (line : Line) (b : Bool) : (s.drive line b).hlAlt = s.hlAlt := by cases line <;> rfl
@[simp] theorem State.drive_ix (line : Line) (b : Bool) : (s.drive line b).ix = s.ix := by cases line <;> rfl
@[simp] theorem State.drive_sp (line : Line) (b : Bool) : (s.drive line b).sp = s.sp := by cases line <;> rfl
@[simp] theorem State.drive_pc (line : Line) (b : Bool) : (s.drive line b).pc = s.pc := by cases line <;> rfl
@[simp] theorem State.drive_latch (line : Line) (b : Bool) : (s.drive line b).latch = s.latch := by cases line <;> rfl
@[simp] theorem State.drive_i (line : Line) (b : Bool) : (s.drive line b).i = s.i := by cases line <;> rfl
@[simp] theorem State.drive_im (line : Line) (b : Bool) : (s.drive line b).im = s.im := by cases line <;> rfl
@[simp] theorem State.drive_iff (line : Line) (b : Bool) : (s.drive line b).iff = s.iff := by cases line <;> rfl
@[simp] theorem State.drive_halted (line : Line) (b : Bool) : (s.drive line b).halted = s.halted := by cases line <;> rfl
@[simp] theorem State.drive_powered (line : Line) (b : Bool) : (s.drive line b).powered = s.powered := by cases line <;> rfl
@[simp] theorem State.drive_faulted (line : Line) (b : Bool) : (s.drive line b).faulted = s.faulted := by cases line <;> rfl
@[simp] theorem State.drive_cycles (line : Line) (b : Bool) : (s.drive line b).cycles = s.cycles := by cases line <;> rfl
@[simp] theorem State.drive_intData (line : Line) (b : Bool) : (s.drive line b).intData = s.intData := by cases line <;> rfl
@[simp] theorem State.drive_address (line : Line) (b : Bool) : (s.drive line b).address = s.address := by cases line <;> rfl
@[simp] theorem State.drive_data (line : Line) (b : Bool) : (s.drive line b).data = s.data := by cases line <;> rfl
@[simp] theorem State.drive_pfx (line : Line) (b : Bool) : (s.drive line b).pfx = s.pfx := by cases line <;> rfl
@[simp] theorem State.drive_mem (line : Line) (b : Bool) : (s.drive line b).mem = s.mem := by cases line <;> rfl
@[simp] theorem State.drive_map (line : Line) (b : Bool) : (s.drive line b).map = s.map := by cases line <;> rfl
@[simp] theorem State.drive_trace (line : Line) (b : Bool) : (s.drive line b).trace = s.trace := by cases line <;> rfl
@[simp] theorem State.drive_events (line : Line) (b : Bool) : (s.drive line b).events = s.events := by cases line <;> rfl
@[simp] theorem State.drive_hooks (line : Line) (b : Bool) : (s.drive line b).hooks = s.hooks := by cases line <;> rfl
@[simp] theorem State.drive_portIn (line : Line) (b : Bool) : (s.drive line b).portIn = s.portIn := by cases line <;> rfl
@[simp] theorem State.drive_draws (line : Line) (b : Bool) : (s.drive line b).draws = s.draws := by cases line <;> rfl

/-! `State.writeIntData` -/
@[simp] theorem State.writeIntData_af (v : Byte) : (s.writeIntData v).af = s.af := rfl
@[simp] theorem State.writeIntData_bc (v : Byte) : (s.writeIntData v).bc = s.bc := rfl
@[simp] theorem State.writeIntData_de (v : Byte) : (s.writeIntData v).de = s.de := rfl
@[simp] theorem State.writeIntData_hl (v : Byte) : (s.writeIntData v).hl = s.hl := rfl
@[simp] theorem State.writeIntData_afAlt (v : Byte) : (s.writeIntData v).afAlt = s.afAlt := rfl
@[simp] theorem State.writeIntData_bcAlt (v : Byte) : (s.writeIntData v).bcAlt = s.bcAlt := rfl
@[simp] theorem State.writeIntData_deAlt (v : Byte) : (s.writeIntData v).deAlt = s.deAlt := rfl
@[simp] theorem State.writeIntData_hlAlt (v : Byte) : (s.writeIntData v).hlAlt = s.hlAlt := rfl
@[simp] theorem State.writeIntData_ix (v : Byte) : (s.writeIntData v).ix = s.ix := rfl
@[simp] theorem State.writeIntData_sp (v : Byte) : (s.writeIntData v).sp = s.sp := rfl
@[simp] theorem State.writeIntData_pc (v : Byte) : (s.writeIntData v).pc = s.pc := rfl
@[simp] theorem State.writeIntData_latch (v : Byte) : (s.writeIntData v).latch = s.latch := rfl
@[simp] theorem State.writeIntData_i (v : Byte) : (s.writeIntData v).i = s.i := rfl
@[simp] theorem State.writeIntData_im (v : Byte) : (s.writeIntData v).im = s.im := rfl
@[simp] theorem State.writeIntData_iff (v : Byte) : (s.writeIntData v).iff = s.iff := rfl
@[simp] theorem State.writeIntData_halted (v : Byte) : (s.writeIntData v).halted = s.halted := rfl
@[simp] theorem State.writeIntData_powered (v : Byte) : (s.writeIntData v).powered = s.powered := rfl
@[simp] theorem State.writeIntData_faulted (v : Byte) : (s.writeIntData v).faulted = s.faulted := rfl
@[simp] theorem State.writeIntData_cycles (v : Byte) : (s.writeIntData v).cycles = s.cycles := rfl
@[simp] theorem State.writeIntData_resetLine (v : Byte) : (s.writeIntData v).resetLine = s.resetLine := rfl
@[simp] theorem State.writeIntData_nmiLine (v : Byte) : (s.writeIntData v).nmiLine = s.nmiLine := rfl
@[simp] theorem State.writeIntData_intLine (v : Byte) : (s.writeIntData v).intLine = s.intLine := rfl
@[simp] theorem State.writeIntData_intData (v : Byte) : (s.writeIntData v).intData = v := rfl
@[simp] theorem State.writeIntData_address (v : Byte) : (s.writeIntData v).address = s.address := rfl
@[simp] theorem State.writeIntData_data (v : Byte) : (s.writeIntData v).data = s.data := rfl
@[simp] theorem State.writeIntData_pfx (v : Byte) : (s.writeIntData v).pfx = s.pfx := rfl
@[simp] theorem State.writeIntData_mem (v : Byte) : (s.writeIntData v).mem = s.mem := rfl
@[simp] theorem State.writeIntData_map (v : Byte) : (s.writeIntData v).map = s.map := rfl
@[simp] theorem State.writeIntData_trace (v : Byte) : (s.writeIntData v).trace = s.trace := rfl
@[simp] theorem State.writeIntData_events (v : Byte) : (s.writeIntData v).events = s.events := rfl
@[simp] theorem State.writeIntData_hooks (v : Byte) : (s.writeIntData v).hooks = s.hooks := rfl
@[simp] theorem State.writeIntData_portIn (v : Byte) : (s.writeIntData v).portIn = s.portIn := rfl
@[simp] theorem State.writeIntData_draws (v : Byte) : (s.writeIntData v).draws = s.draws := rfl

/-! `State.writeHooks` -/
@[simp] theorem State.writeHooks_af (h : List (List EnvMove)) : (s.writeHooks h).af = s.af := rfl
@[simp] theorem State.writeHooks_bc (h : List (List EnvMove)) : (s.writeHooks h).bc = s.bc := rfl
@[simp] theorem State.writeHooks_de (h : List (List EnvMove)) : (s.writeHooks h).de = s.de := rfl
@[simp] theorem State.writeHooks_hl (h : List (List EnvMove)) : (s.writeHooks h).hl = s.hl := rfl
@[simp] theorem State.writeHooks_afAlt (h : List (List EnvMove)) : (s.writeHooks h).afAlt = s.afAlt := rfl
@[simp] theorem State.writeHooks_bcAlt (h : List (List EnvMove)) : (s.writeHooks h).bcAlt = s.bcAlt := rfl
@[simp] theorem State.writeHooks_deAlt (h : List (List EnvMove)) : (s.writeHooks h).deAlt = s.deAlt := rfl
@[simp] theorem State.writeHooks_hlAlt (h : List (List EnvMove)) : (s.writeHooks h).hlAlt = s.hlAlt := rfl
@[simp] theorem State.writeHooks_ix (h : List (List EnvMove)) : (s.writeHooks h).ix = s.ix := rfl
@[simp] theorem State.writeHooks_sp (h : List (List EnvMove)) : (s.writeHooks h).sp = s.sp := rfl
@[simp] theorem State.writeHooks_pc (h : List (List EnvMove)) : (s.writeHooks h).pc = s.pc := rfl
@[simp] theorem State.writeHooks_latch (h : List (List EnvMove)) : (s.writeHooks h).latch = s.latch := rfl
@[simp] theorem State.writeHooks_i (h : List (List EnvMove)) : (s.writeHooks h).i = s.i := rfl
@[simp] theorem State.writeHooks_im (h : List (List EnvMove)) : (s.writeHooks h).im = s.im := rfl
@[simp] theorem State.writeHooks_iff (h : List (List EnvMove)) : (s.writeHooks h).iff = s.iff := rfl
@[simp] theorem State.writeHooks_halted (h : List (List EnvMove)) : (s.writeHooks h).halted = s.halted := rfl
@[simp] theorem State.writeHooks_powered (h : List (List EnvMove)) : (s.writeHooks h).powered = s.powered := rfl
@[simp] theorem State.writeHooks_faulted (h : List (List EnvMove)) : (s.writeHooks h).faulted = s.faulted := rfl
@[simp] theorem State.writeHooks_cycles (h : List (List EnvMove)) : (s.writeHooks h).cycles = s.cycles := rfl
@[simp] theorem State.writeHooks_resetLine (h : List (List EnvMove)) : (s.writeHooks h).resetLine = s.resetLine := rfl
@[simp] theorem State.writeHooks_nmiLine (h : List (List EnvMove)) : (s.writeHooks h).nmiLine = s.nmiLine := rfl
@[simp] theorem State.writeHooks_intLine (h : List (List EnvMove)) : (s.writeHooks h).intLine = s.intLine := rfl
@[simp] theorem State.writeHooks_intData (h : List (List EnvMove)) : (s.writeHooks h).intData = s.intData := rfl
@[simp] theorem State.writeHooks_address (h : List (List EnvMove)) : (s.writeHooks h).address = s.address := rfl
@[simp] theorem State.writeHooks_data (h : List (List EnvMove)) : (s.writeHooks h).data = s.data := rfl
@[simp] theorem State.writeHooks_pfx (h : List (List EnvMove)) : (s.writeHooks h).pfx = s.pfx := rfl
@[simp] theorem State.writeHooks_mem (h : List (List EnvMove)) : (s.writeHooks h).mem = s.mem := rfl
@[simp] theorem State.writeHooks_map (h : List (List EnvMove)) : (s.writeHooks h).map = s.map := rfl
@[simp] theorem State.writeHooks_trace (h : List (List EnvMove)) : (s.writeHooks h).trace = s.trace := rfl
@[simp] theorem State.writeHooks_events (h : List (List EnvMove)) : (s.writeHooks h).events = s.events := rfl
@[simp] theorem State.writeHooks_hooks (h : List (List EnvMove)) : (s.writeHooks h).hooks = h := rfl
@[simp] theorem State.writeHooks_portIn (h : List (List EnvMove)) : (s.writeHooks h).portIn = s.portIn := rfl
@[simp] theorem State.writeHooks_draws (h : List (List EnvMove)) : (s.writeHooks h).draws = s.draws := rfl

/-! `State.dropAnswer` -/
@[simp] theorem State.dropAnswer_af : s.dropAnswer.af = s.af := rfl
@[simp] theorem State.dropAnswer_bc : s.dropAnswer.bc = s.bc := rfl
@[simp] theorem State.dropAnswer_de : s.dropAnswer.de = s.de := rfl
@[simp] theorem State.dropAnswer_hl : s.dropAnswer.hl = s.hl := rfl
@[simp] theorem State.dropAnswer_afAlt : s.dropAnswer.afAlt = s.afAlt := rfl
@[simp] theorem State.dropAnswer_bcAlt : s.dropAnswer.bcAlt = s.bcAlt := rfl
@[simp] theorem State.dropAnswer_deAlt : s.dropAnswer.deAlt = s.deAlt := rfl
@[simp] theorem State.dropAnswer_hlAlt : s.dropAnswer.hlAlt = s.hlAlt := rfl
@[simp] theorem State.dropAnswer_ix : s.dropAnswer.ix = s.ix := rfl
@[simp] theorem State.dropAnswer_sp : s.dropAnswer.sp = s.sp := rfl
@[simp] theorem State.dropAnswer_pc : s.dropAnswer.pc = s.pc := rfl
@[simp] theorem State.dropAnswer_latch : s.dropAnswer.latch = s.latch := rfl
@[simp] theorem State.dropAnswer_i : s.dropAnswer.i = s.i := rfl
@[simp] theorem State.dropAnswer_im : s.dropAnswer.im = s.im := rfl
@[simp] theorem State.dropAnswer_iff : s.dropAnswer.iff = s.iff := rfl
@[simp] theorem State.dropAnswer_halted : s.dropAnswer.halted = s.halted := rfl
@[simp] theorem State.dropAnswer_powered : s.dropAnswer.powered = s.powered := rfl
@[simp] theorem State.dropAnswer_faulted : s.dropAnswer.faulted = s.faulted := rfl
@[simp] theorem State.dropAnswer_cycles : s.dropAnswer.cycles = s.cycles := rfl
@[simp] theorem State.dropAnswer_resetLine : s.dropAnswer.resetLine = s.resetLine := rfl
@[simp] theorem State.dropAnswer_nmiLine : s.dropAnswer.nmiLine = s.nmiLine := rfl
@[simp] theorem State.dropAnswer_intLine : s.dropAnswer.intLine = s.intLine := rfl
@[simp] theorem State.dropAnswer_intData : s.dropAnswer.intData = s.intData := rfl
@[simp] theorem State.dropAnswer_address : s.dropAnswer.address = s.address := rfl
@[simp] theorem State.dropAnswer_data : s.dropAnswer.data = s.data := rfl
@[simp] theorem State.dropAnswer_pfx : s.dropAnswer.pfx = s.pfx := rfl
@[simp] theorem State.dropAnswer_mem : s.dropAnswer.mem = s.mem := rfl
@[simp] theorem State.dropAnswer_map : s.dropAnswer.map = s.map := rfl
@[simp] theorem State.dropAnswer_trace : s.dropAnswer.trace = s.trace := rfl
@[simp] theorem State.dropAnswer_events : s.dropAnswer.events = s.events := rfl
@[simp] theorem State.dropAnswer_hooks : s.dropAnswer.hooks = s.hooks := rfl
@[simp] theorem State.dropAnswer_portIn : s.dropAnswer.portIn = s.portIn.tail := rfl
@[simp] theorem State.dropAnswer_draws : s.dropAnswer.draws = s.draws + 1 := rfl

/-! `State.resetCore` -/
@[simp] theorem State.resetCore_af : s.resetCore.af = joinBytes (hiByte s.af) 0x00 := rfl
@[simp] theorem State.resetCore_bc : s.resetCore.bc = s.bc := rfl
@[simp] theorem State.resetCore_de : s.resetCore.de = s.de := rfl
@[simp] theorem State.resetCore_hl : s.resetCore.hl = s.hl := rfl
@[simp] theorem State.resetCore_afAlt : s.resetCore.afAlt = s.afAlt := rfl
@[simp] theorem State.resetCore_bcAlt : s.resetCore.bcAlt = s.bcAlt := rfl
@[simp] theorem State.resetCore_deAlt : s.resetCore.deAlt = s.deAlt := rfl
@[simp] theorem State.resetCore_hlAlt : s.resetCore.hlAlt = s.hlAlt := rfl
@[simp] theorem State.resetCore_ix : s.resetCore.ix = s.ix := rfl
@[simp] theorem State.resetCore_sp : s.resetCore.sp = 0xFFFF := rfl
@[simp] theorem State.resetCore_pc : s.resetCore.pc = 0x0000 := rfl
@[simp] theorem State.resetCore_latch : s.resetCore.latch = s.latch := rfl
@[simp] theorem State.resetCore_i : s.resetCore.i = s.i := rfl
@[simp] theorem State.resetCore_im : s.resetCore.im = .im0 := rfl
@[simp] theorem State.resetCore_iff : s.resetCore.iff = false := rfl
@[simp] theorem State.resetCore_halted : s.resetCore.halted = false := rfl
@[simp] theorem State.resetCore_powered : s.resetCore.powered = s.powered := rfl
@[simp] theorem State.resetCore_faulted : s.resetCore.faulted = s.faulted := rfl
@[simp] theorem State.resetCore_cycles : s.resetCore.cycles = s.cycles := rfl
@[simp] theorem State.resetCore_resetLine : s.resetCore.resetLine = false := rfl
@[simp] theorem State.resetCore_nmiLine : s.resetCore.nmiLine = s.nmiLine := rfl
@[simp] theorem State.resetCore_intLine : s.resetCore.intLine = s.intLine := rfl
@[simp] theorem State.resetCore_intData : s.resetCore.intData = s.intData := rfl
@[simp] theorem State.resetCore_address : s.resetCore.address = s.address := rfl
@[simp] theorem State.resetCore_data : s.resetCore.data = s.data := rfl
@[simp] theorem State.resetCore_pfx : s.resetCore.pfx = s.pfx := rfl
@[simp] theorem State.resetCore_mem : s.resetCore.mem = s.mem := rfl
@[simp] theorem State.resetCore_map : s.resetCore.map = s.map := rfl
@[simp] theorem State.resetCore_trace : s.resetCore.trace = s.trace := rfl
@[simp] theorem State.resetCore_events : s.resetCore.events = s.events := rfl
@[simp] theorem State.resetCore_hooks : s.resetCore.hooks = s.hooks := rfl
@[simp] theorem State.resetCore_portIn : s.resetCore.portIn = s.portIn := rfl
@[simp] theorem State.resetCore_draws : s.resetCore.draws = s.draws := rfl

/-! `State.beginStep` -/
@[simp] theorem State.beginStep_af : s.beginStep.af = s.af := rfl
@[simp] theorem State.beginStep_bc : s.beginStep.bc = s.bc := rfl
@[simp] theorem State.beginStep_de : s.beginStep.de = s.de := rfl
@[simp] theorem State.beginStep_hl : s.beginStep.hl = s.hl := rfl
@[simp] theorem State.beginStep_afAlt : s.beginStep.afAlt = s.afAlt := rfl
@[simp] theorem State.beginStep_bcAlt : s.beginStep.bcAlt = s.bcAlt := rfl
@[simp] theorem State.beginStep_deAlt : s.beginStep.deAlt = s.deAlt := rfl
@[simp] theorem State.beginStep_hlAlt : s.beginStep.hlAlt = s.hlAlt := rfl
@[simp] theorem State.beginStep_ix : s.beginStep.ix = s.ix := rfl
@[simp] theorem State.beginStep_sp : s.beginStep.sp = s.sp := rfl
@[simp] theorem State.beginStep_pc : s.beginStep.pc = s.pc := rfl
@[simp] theorem State.beginStep_latch : s.beginStep.latch = s.latch := rfl
@[simp] theorem State.beginStep_i : s.beginStep.i = s.i := rfl
@[simp] theorem State.beginStep_im : s.beginStep.im = s.im := rfl
@[simp] theorem State.beginStep_iff : s.beginStep.iff = s.iff := rfl
@[simp] theorem State.beginStep_halted : s.beginStep.halted = s.halted := rfl
@[simp] theorem State.beginStep_powered : s.beginStep.powered = s.powered := rfl
@[simp] theorem State.beginStep_faulted : s.beginStep.faulted = s.faulted := rfl
@[simp] theorem State.beginStep_cycles : s.beginStep.cycles = 0 := rfl
@[simp] theorem State.beginStep_resetLine : s.beginStep.resetLine = s.resetLine := rfl
@[simp] theorem State.beginStep_nmiLine : s.beginStep.nmiLine = s.nmiLine := rfl
@[simp] theorem State.beginStep_intLine : s.beginStep.intLine = s.intLine := rfl
@[simp] theorem State.beginStep_intData : s.beginStep.intData = s.intData := rfl
@[simp] theorem State.beginStep_address : s.beginStep.address = s.address := rfl
@[simp] theorem State.beginStep_data : s.beginStep.data = s.data := rfl
@[simp] theorem State.beginStep_pfx : s.beginStep.pfx = s.pfx := rfl
@[simp] theorem State.beginStep_mem : s.beginStep.mem = s.mem := rfl
@[simp] theorem State.beginStep_map : s.beginStep.map = s.map := rfl
@[simp] theorem State.beginStep_trace : s.beginStep.trace = s.trace := rfl
@[simp] theorem State.beginStep_events : s.beginStep.events = s.events ++ [.executingInstruction] := rfl
@[simp] theorem State.beginStep_hooks : s.beginStep.hooks = s.hooks := rfl
@[simp] theorem State.beginStep_portIn : s.beginStep.portIn = s.portIn := rfl
@[simp] theorem State.beginStep_draws : s.beginStep.draws = s.draws := rfl

/-! `State.afterRead` -/
@[simp] theorem State.afterRead_af (a : Word) (g : Tag) : (s.afterRead a g).af = s.af := rfl
@[simp] theorem State.afterRead_bc (a : Word) (g : Tag) : (s.afterRead a g).bc = s.bc := rfl
@[simp] theorem State.afterRead_de (a : Word) (g : Tag) : (s.afterRead a g).de = s.de := rfl
@[simp] theorem State.afterRead_hl (a : Word) (g : Tag) : (s.afterRead a g).hl = s.hl := rfl
@[simp] theorem State.afterRead_afAlt (a : Word) (g : Tag) : (s.afterRead a g).afAlt = s.afAlt := rfl
@[simp] theorem State.afterRead_bcAlt (a : Word) (g : Tag) : (s.afterRead a g).bcAlt = s.bcAlt := rfl
@[simp] theorem State.afterRead_deAlt (a : Word) (g : Tag) : (s.afterRead a g).deAlt = s.deAlt := rfl
@[simp] theorem State.afterRead_hlAlt (a : Word) (g : Tag) : (s.afterRead a g).hlAlt = s.hlAlt := rfl
@[simp] theorem State.afterRead_ix (a : Word) (g : Tag) : (s.afterRead a g).ix = s.ix := rfl
@[simp] theorem State.afterRead_sp (a : Word) (g : Tag) : (s.afterRead a g).sp = s.sp := rfl
@[simp] theorem State.afterRead_pc (a : Word) (g : Tag) : (s.afterRead a g).pc = s.pc := rfl
@[simp] theorem State.afterRead_latch (a : Word) (g : Tag) : (s.afterRead a g).latch = s.latch := rfl
@[simp] theorem State.afterRead_i (a : Word) (g : Tag) : (s.afterRead a g).i = s.i := rfl
@[simp] theorem State.afterRead_im (a : Word) (g : Tag) : (s.afterRead a g).im = s.im := rfl
@[simp] theorem State.afterRead_iff (a : Word) (g : Tag) : (s.afterRead a g).iff = s.iff := rfl
@[simp] theorem State.afterRead_halted (a : Word) (g : Tag) : (s.afterRead a g).halted = s.halted := rfl
@[simp] theorem State.afterRead_powered (a : Word) (g : Tag) : (s.afterRead a g).powered = s.powered := rfl
@[simp] theorem State.afterRead_faulted (a : Word) (g : Tag) : (s.afterRead a g).faulted = s.faulted := rfl
@[simp] theorem State.afterRead_cycles (a : Word) (g : Tag) : (s.afterRead a g).cycles = s.cycles := rfl
@[simp] theorem State.afterRead_resetLine (a : Word) (g : Tag) : (s.afterRead a g).resetLine = s.resetLine := rfl
@[simp] theorem State.afterRead_nmiLine (a : Word) (g : Tag) : (s.afterRead a g).nmiLine = s.nmiLine := rfl
@[simp] theorem State.afterRead_intLine (a : Word) (g : Tag) : (s.afterRead a g).intLine = s.intLine := rfl
@[simp] theorem State.afterRead_intData (a : Word) (g : Tag) : (s.afterRead a g).intData = s.intData := rfl
@[simp] theorem State.afterRead_address (a : Word) (g : Tag) : (s.afterRead a g).address = a := rfl
@[simp] theorem State.afterRead_data (a : Word) (g : Tag) : (s.afterRead a g).data = s.byteAt a := rfl
@[simp] theorem State.afterRead_pfx (a : Word) (g : Tag) : (s.afterRead a g).pfx = s.pfx := rfl
@[simp] theorem State.afterRead_mem (a : Word) (g : Tag) : (s.afterRead a g).mem = s.mem := rfl
@[simp] theorem State.afterRead_map (a : Word) (g : Tag) : (s.afterRead a g).map = s.map := rfl
@[simp] theorem State.afterRead_trace (a : Word) (g : Tag) : (s.afterRead a g).trace = s.trace ++ [⟨.mem, .read, a, s.byteAt a, g⟩] := rfl
@[simp] theorem State.afterRead_events (a : Word) (g : Tag) : (s.afterRead a g).events = s.events ++ [.reading a, .read a (s.byteAt a)] := rfl
@[simp] theorem State.afterRead_hooks (a : Word) (g : Tag) : (s.afterRead a g).hooks = s.hooks := rfl
@[simp] theorem State.afterRead_portIn (a : Word) (g : Tag) : (s.afterRead a g).portIn = s.portIn := rfl
@[simp] theorem State.afterRead_draws (a : Word) (g : Tag) : (s.afterRead a g).draws = s.draws := rfl

/-! `State.afterWrite` -/
@[simp] theorem State.afterWrite_af (a : Word) (v : Byte) (g : Tag) : (s.afterWrite a v g).af = s.af := rfl
@[simp] theorem State.afterWrite_bc (a : Word) (v : Byte) (g : Tag) : (s.afterWrite a v g).bc = s.bc := rfl
@[simp] theorem State.afterWrite_de (a : Word) (v : Byte) (g : Tag) : (s.afterWrite a v g).de = s.de := rfl
@[simp] theorem State.afterWrite_hl (a : Word) (v : Byte) (g : Tag) : (s.afterWrite a v g).hl = s.hl := rfl
@[simp] theorem State.afterWrite_afAlt (a : Word) (v : Byte) (g : Tag) : (s.afterWrite a v g).afAlt = s.afAlt := rfl
@[simp] theorem State.afterWrite_bcAlt (a : Word) (v : Byte) (g : Tag) : (s.afterWrite a v g).bcAlt = s.bcAlt := rfl
@[simp] theorem State.afterWrite_deAlt (a : Word) (v : Byte) (g : Tag) : (s.afterWrite a v g).deAlt = s.deAlt := rfl
@[simp] theorem State.afterWrite_hlAlt (a : Word) (v : Byte) (g : Tag) : (s.afterWrite a v g).hlAlt = s.hlAlt := rfl
@[simp] theorem State.afterWrite_ix (a : Word) (v : Byte) (g : Tag) : (s.afterWrite a v g).ix = s.ix := rfl
@[simp] theorem State.afterWrite_sp (a : Word) (v : Byte) (g : Tag) : (s.afterWrite a v g).sp = s.sp := rfl
@[simp] theorem State.afterWrite_pc (a : Word) (v : Byte) (g : Tag) : (s.afterWrite a v g).pc = s.pc := rfl
@[simp] theorem State.afterWrite_latch (a : Word) (v : Byte) (g : Tag) : (s.afterWrite a v g).latch = s.latch := rfl
@[simp] theorem State.afterWrite_i (a : Word) (v : Byte) (g : Tag) : (s.afterWrite a v g).i = s.i := rfl
@[simp] theorem State.afterWrite_im (a : Word) (v : Byte) (g : Tag) : (s.afterWrite a v g).im = s.im := rfl
@[simp] theorem State.afterWrite_iff (a : Word) (v : Byte) (g : Tag) : (s.afterWrite a v g).iff = s.iff := rfl
@[simp] theorem State.afterWrite_halted (a : Word) (v : Byte) (g : Tag) : (s.afterWrite a v g).halted = s.halted := rfl
@[simp] theorem State.afterWrite_powered (a : Word) (v : Byte) (g : Tag) : (s.afterWrite a v g).powered = s.powered := rfl
@[simp] theorem State.afterWrite_faulted (a : Word) (v : Byte) (g : Tag) : (s.afterWrite a v g).faulted = s.faulted := rfl
@[simp] theorem State.afterWrite_cycles (a : Word) (v : Byte) (g : Tag) : (s.afterWrite a v g).cycles = s.cycles := rfl
@[simp] theorem State.afterWrite_resetLine (a : Word) (v : Byte) (g : Tag) : (s.afterWrite a v g).resetLine = s.resetLine := rfl
@[simp] theorem State.afterWrite_nmiLine (a : Word) (v : Byte) (g : Tag) : (s.afterWrite a v g).nmiLine = s.nmiLine := rfl
@[simp] theorem State.afterWrite_intLine (a : Word) (v : Byte) (g : Tag) : (s.afterWrite a v g).intLine = s.intLine := rfl
@[simp] theorem State.afterWrite_intData (a : Word) (v : Byte) (g : Tag) : (s.afterWrite a v g).intData = s.intData := rfl
@[simp] theorem State.afterWrite_address (a : Word) (v : Byte) (g : Tag) : (s.afterWrite a v g).address = a := rfl
@[simp] theorem State.afterWrite_data (a : Word) (v : Byte) (g : Tag) : (s.afterWrite a v g).data = v := rfl
@[simp] theorem State.afterWrite_pfx (a : Word) (v : Byte) (g : Tag) : (s.afterWrite a v g).pfx = s.pfx := rfl
@[simp] theorem State.afterWrite_mem (a : Word) (v : Byte) (g : Tag) : (s.afterWrite a v g).mem = Memory.write s.mem a.toNat v := rfl
@[simp] theorem State.afterWrite_map (a : Word) (v : Byte) (g : Tag) : (s.afterWrite a v g).map = s.map := rfl
@[simp] theorem State.afterWrite_trace (a : Word) (v : Byte) (g : Tag) : (s.afterWrite a v g).trace = s.trace ++ [⟨.mem, .write, a, v, g⟩] := rfl
@[simp] theorem State.afterWrite_events (a : Word) (v : Byte) (g : Tag) : (s.afterWrite a v g).events = s.events ++ [.writing a v, .written a v] := rfl
@[simp] theorem State.afterWrite_hooks (a : Word) (v : Byte) (g : Tag) : (s.afterWrite a v g).hooks = s.hooks := rfl
@[simp] theorem State.afterWrite_portIn (a : Word) (v : Byte) (g : Tag) : (s.afterWrite a v g).portIn = s.portIn := rfl
@[simp] theorem State.afterWrite_draws (a : Word) (v : Byte) (g : Tag) : (s.afterWrite a v g).draws = s.draws := rfl

/-! `State.afterPortRead` -/
@[simp] theorem State.afterPortRead_af (p v : Byte) : (s.afterPortRead p v).af = s.af := rfl
@[simp] theorem State.afterPortRead_bc (p v : Byte) : (s.afterPortRead p v).bc = s.bc := rfl
@[simp] theorem State.afterPortRead_de (p v : Byte) : (s.afterPortRead p v).de = s.de := rfl
@[simp] theorem State.afterPortRead_hl (p v : Byte) : (s.afterPortRead p v).hl = s.hl := rfl
@[simp] theorem State.afterPortRead_afAlt (p v : Byte) : (s.afterPortRead p v).afAlt = s.afAlt := rfl
@[simp] theorem State.afterPortRead_bcAlt (p v : Byte) : (s.afterPortRead p v).bcAlt = s.bcAlt := rfl
@[simp] theorem State.afterPortRead_deAlt (p v : Byte) : (s.afterPortRead p v).deAlt = s.deAlt := rfl
@[simp] theorem State.afterPortRead_hlAlt (p v : Byte) : (s.afterPortRead p v).hlAlt = s.hlAlt := rfl
@[simp] theorem State.afterPortRead_ix (p v : Byte) : (s.afterPortRead p v).ix = s.ix := rfl
@[simp] theorem State.afterPortRead_sp (p v : Byte) : (s.afterPortRead p v).sp = s.sp := rfl
@[simp] theorem State.afterPortRead_pc (p v : Byte) : (s.afterPortRead p v).pc = s.pc := rfl
@[simp] theorem State.afterPortRead_latch (p v : Byte) : (s.afterPortRead p v).latch = s.latch := rfl
@[simp] theorem State.afterPortRead_i (p v : Byte) : (s.afterPortRead p v).i = s.i := rfl
@[simp] theorem State.afterPortRead_im (p v : Byte) : (s.afterPortRead p v).im = s.im := rfl
@[simp] theorem State.afterPortRead_iff (p v : Byte) : (s.afterPortRead p v).iff = s.iff := rfl
@[simp] theorem State.afterPortRead_halted (p v : Byte) : (s.afterPortRead p v).halted = s.halted := rfl
@[simp] theorem State.afterPortRead_powered (p v : Byte) : (s.afterPortRead p v).powered = s.powered := rfl
@[simp] theorem State.afterPortRead_faulted (p v : Byte) : (s.afterPortRead p v).faulted = s.faulted := rfl
@[simp] theorem State.afterPortRead_cycles (p v : Byte) : (s.afterPortRead p v).cycles = s.cycles := rfl
@[simp] theorem State.afterPortRead_resetLine (p v : Byte) : (s.afterPortRead p v).resetLine = s.resetLine := rfl
@[simp] theorem State.afterPortRead_nmiLine (p v : Byte) : (s.afterPortRead p v).nmiLine = s.nmiLine := rfl
@[simp] theorem State.afterPortRead_intLine (p v : Byte) : (s.afterPortRead p v).intLine = s.intLine := rfl
@[simp] theorem State.afterPortRead_intData (p v : Byte) : (s.afterPortRead p v).intData = s.intData := rfl
@[simp] theorem State.afterPortRead_address (p v : Byte) : (s.afterPortRead p v).address = zeroExt p := rfl
@[simp] theorem State.afterPortRead_data (p v : Byte) : (s.afterPortRead p v).data = v := rfl
@[simp] theorem State.afterPortRead_pfx (p v : Byte) : (s.afterPortRead p v).pfx = s.pfx := rfl
@[simp] theorem State.afterPortRead_mem (p v : Byte) : (s.afterPortRead p v).mem = s.mem := rfl
@[simp] theorem State.afterPortRead_map (p v : Byte) : (s.afterPortRead p v).map = s.map := rfl
@[simp] theorem State.afterPortRead_trace (p v : Byte) : (s.afterPortRead p v).trace = s.trace ++ [⟨.io, .read, zeroExt p, v, .port⟩] := rfl
@[simp] theorem State.afterPortRead_events (p v : Byte) : (s.afterPortRead p v).events = s.events ++ [.portReading p, .portRead p v] := rfl
@[simp] theorem State.afterPortRead_hooks (p v : Byte) : (s.afterPortRead p v).hooks = s.hooks := rfl
@[simp] theorem State.afterPortRead_portIn (p v : Byte) : (s.afterPortRead p v).portIn = s.portIn.tail := rfl
@[simp] theorem State.afterPortRead_draws (p v : Byte) : (s.afterPortRead p v).draws = s.draws + 1 := rfl

/-! `State.afterPortWrite` -/
@[simp] theorem State.afterPortWrite_af (p v : Byte) : (s.afterPortWrite p v).af = s.af := rfl
@[simp] theorem State.afterPortWrite_bc (p v : Byte) : (s.afterPortWrite p v).bc = s.bc := rfl
@[simp] theorem State.afterPortWrite_de (p v : Byte) : (s.afterPortWrite p v).de = s.de := rfl
@[simp] theorem State.afterPortWrite_hl (p v : Byte) : (s.afterPortWrite p v).hl = s.hl := rfl
@[simp] theorem State.afterPortWrite_afAlt (p v : Byte) : (s.afterPortWrite p v).afAlt = s.afAlt := rfl
@[simp] theorem State.afterPortWrite_bcAlt (p v : Byte) : (s.afterPortWrite p v).bcAlt = s.bcAlt := rfl
@[simp] theorem State.afterPortWrite_deAlt (p v : Byte) : (s.afterPortWrite p v).deAlt = s.deAlt := rfl
@[simp] theorem State.afterPortWrite_hlAlt (p v : Byte) : (s.afterPortWrite p v).hlAlt = s.hlAlt := rfl
@[simp] theorem State.afterPortWrite_ix (p v : Byte) : (s.afterPortWrite p v).ix = s.ix := rfl
@[simp] theorem State.afterPortWrite_sp (p v : Byte) : (s.afterPortWrite p v).sp = s.sp := rfl
@[simp] theorem State.afterPortWrite_pc (p v : Byte) : (s.afterPortWrite p v).pc = s.pc := rfl
@[simp] theorem State.afterPortWrite_latch (p v : Byte) : (s.afterPortWrite p v).latch = s.latch := rfl
@[simp] theorem State.afterPortWrite_i (p v : Byte) : (s.afterPortWrite p v).i = s.i := rfl
@[simp] theorem State.afterPortWrite_im (p v : Byte) : (s.afterPortWrite p v).im = s.im := rfl
@[simp] theorem State.afterPortWrite_iff (p v : Byte) : (s.afterPortWrite p v).iff = s.iff := rfl
@[simp] theorem State.afterPortWrite_halted (p v : Byte) : (s.afterPortWrite p v).halted = s.halted := rfl
@[simp] theorem State.afterPortWrite_powered (p v : Byte) : (s.afterPortWrite p v).powered = s.powered := rfl
@[simp] theorem State.afterPortWrite_faulted (p v : Byte) : (s.afterPortWrite p v).faulted = s.faulted := rfl
@[simp] theorem State.afterPortWrite_cycles (p v : Byte) : (s.afterPortWrite p v).cycles = s.cycles := rfl
@[simp] theorem State.afterPortWrite_resetLine (p v : Byte) : (s.afterPortWrite p v).resetLine = s.resetLine := rfl
@[simp] theorem State.afterPortWrite_nmiLine (p v : Byte) : (s.afterPortWrite p v).nmiLine = s.nmiLine := rfl
@[simp] theorem State.afterPortWrite_intLine (p v : Byte) : (s.afterPortWrite p v).intLine = s.intLine := rfl
@[simp] theorem State.afterPortWrite_intData (p v : Byte) : (s.afterPortWrite p v).intData = s.intData := rfl
@[simp] theorem State.afterPortWrite_address (p v : Byte) : (s.afterPortWrite p v).address = zeroExt p := rfl
@[simp] theorem State.afterPortWrite_data (p v : Byte) : (s.afterPortWrite p v).data = v := rfl
@[simp] theorem State.afterPortWrite_pfx (p v : Byte) : (s.afterPortWrite p v).pfx = s.pfx := rfl
@[simp] theorem State.afterPortWrite_mem (p v : Byte) : (s.afterPortWrite p v).mem = s.mem := rfl
@[simp] theorem State.afterPortWrite_map (p v : Byte) : (s.afterPortWrite p v).map = s.map := rfl
@[simp] theorem State.afterPortWrite_trace (p v : Byte) : (s.afterPortWrite p v).trace = s.trace ++ [⟨.io, .write, zeroExt p, v, .port⟩] := rfl
@[simp] theorem State.afterPortWrite_events (p v : Byte) : (s.afterPortWrite p v).events = s.events ++ [.portWriting p v, .portWritten p v] := rfl
@[simp] theorem State.afterPortWrite_hooks (p v : Byte) : (s.afterPortWrite p v).hooks = s.hooks := rfl
@[simp] theorem State.afterPortWrite_portIn (p v : Byte) : (s.afterPortWrite p v).portIn = s.portIn := rfl
@[simp] theorem State.afterPortWrite_draws (p v : Byte) : (s.afterPortWrite p v).draws = s.draws := rfl

/-! `State.afterPush` -/
@[simp] theorem State.afterPush_af (w : Word) : (s.afterPush w).af = s.af :=
  (State.afterWrite_af _ _ _ _).trans (((State.writeSP_af _ _).trans ((State.afterWrite_af _ _ _ _).trans (State.writeSP_af _ _))))
@[simp] theorem State.afterPush_bc (w : Word) : (s.afterPush w).bc = s.bc :=
  (State.afterWrite_bc _ _ _ _).trans (((State.writeSP_bc _ _).trans ((State.afterWrite_bc _ _ _ _).trans (State.writeSP_bc _ _))))
@[simp] theorem State.afterPush_de (w : Word) : (s.afterPush w).de = s.de :=
  (State.afterWrite_de _ _ _ _).trans (((State.writeSP_de _ _).trans ((State.afterWrite_de _ _ _ _).trans (State.writeSP_de _ _))))
@[simp] theorem State.afterPush_hl (w : Word) : (s.afterPush w).hl = s.hl :=
  (State.afterWrite_hl _ _ _ _).trans (((State.writeSP_hl _ _).trans ((State.afterWrite_hl _ _ _ _).trans (State.writeSP_hl _ _))))
@[simp] theorem State.afterPush_afAlt (w : Word) : (s.afterPush w).afAlt = s.afAlt :=
  (State.afterWrite_afAlt _ _ _ _).trans (((State.writeSP_afAlt _ _).trans ((State.afterWrite_afAlt _ _ _ _).trans (State.writeSP_afAlt _ _))))
@[simp] theorem State.afterPush_bcAlt (w : Word) : (s.afterPush w).bcAlt = s.bcAlt :=
  (State.afterWrite_bcAlt _ _ _ _).trans (((State.writeSP_bcAlt _ _).trans ((State.afterWrite_bcAlt _ _ _ _).trans (State.writeSP_bcAlt _ _))))
@[simp] theorem State.afterPush_deAlt (w : Word) : (s.afterPush w).deAlt = s.deAlt :=
  (State.afterWrite_deAlt _ _ _ _).trans (((State.writeSP_deAlt _ _).trans ((State.afterWrite_deAlt _ _ _ _).trans (State.writeSP_deAlt _ _))))
@[simp] theorem State.afterPush_hlAlt (w : Word) : (s.afterPush w).hlAlt = s.hlAlt :=
  (State.afterWrite_hlAlt _ _ _ _).trans (((State.writeSP_hlAlt _ _).trans ((State.afterWrite_hlAlt _ _ _ _).trans (State.writeSP_hlAlt _ _))))
@[simp] theorem State.afterPush_ix (w : Word) : (s.afterPush w).ix = s.ix :=
  (State.afterWrite_ix _ _ _ _).trans (((State.writeSP_ix _ _).trans ((State.afterWrite_ix _ _ _ _).trans (State.writeSP_ix _ _))))
@[simp] theorem State.afterPush_pc (w : Word) : (s.afterPush w).pc = s.pc :=
  (State.afterWrite_pc _ _ _ _).trans (((State.writeSP_pc _ _).trans ((State.afterWrite_pc _ _ _ _).trans (State.writeSP_pc _ _))))
@[simp] theorem State.afterPush_latch (w : Word) : (s.afterPush w).latch = s.latch :=
  (State.afterWrite_latch _ _ _ _).trans (((State.writeSP_latch _ _).trans ((State.afterWrite_latch _ _ _ _).trans (State.writeSP_latch _ _))))
@[simp] theorem State.afterPush_i (w : Word) : (s.afterPush w).i = s.i :=
  (State.afterWrite_i _ _ _ _).trans (((State.writeSP_i _ _).trans ((State.afterWrite_i _ _ _ _).trans (State.writeSP_i _ _))))
@[simp] theorem State.afterPush_im (w : Word) : (s.afterPush w).im = s.im :=
  (State.afterWrite_im _ _ _ _).trans (((State.writeSP_im _ _).trans ((State.afterWrite_im _ _ _ _).trans (State.writeSP_im _ _))))
@[simp] theorem State.afterPush_iff (w : Word) : (s.afterPush w).iff = s.iff :=
  (State.afterWrite_iff _ _ _ _).trans (((State.writeSP_iff _ _).trans ((State.afterWrite_iff _ _ _ _).trans (State.writeSP_iff _ _))))
@[simp] theorem State.afterPush_halted (w : Word) : (s.afterPush w).halted = s.halted :=
  (State.afterWrite_halted _ _ _ _).trans (((State.writeSP_halted _ _).trans ((State.afterWrite_halted _ _ _ _).trans (State.writeSP_halted _ _))))
@[simp] theorem State.afterPush_powered (w : Word) : (s.afterPush w).powered = s.powered :=
  (State.afterWrite_powered _ _ _ _).trans (((State.writeSP_powered _ _).trans ((State.afterWrite_powered _ _ _ _).trans (State.writeSP_powered _ _))))
@[simp] theorem State.afterPush_faulted (w : Word) : (s.afterPush w).faulted = s.faulted :=
  (State.afterWrite_faulted _ _ _ _).trans (((State.writeSP_faulted _ _).trans ((State.afterWrite_faulted _ _ _ _).trans (State.writeSP_faulted _ _))))
@[simp] theorem State.afterPush_cycles (w : Word) : (s.afterPush w).cycles = s.cycles :=
  (State.afterWrite_cycles _ _ _ _).trans (((State.writeSP_cycles _ _).trans ((State.afterWrite_cycles _ _ _ _).trans (State.writeSP_cycles _ _))))
@[simp] theorem State.afterPush_resetLine (w : Word) : (s.afterPush w).resetLine = s.resetLine :=
  (State.afterWrite_resetLine _ _ _ _).trans (((State.writeSP_resetLine _ _).trans ((State.afterWrite_resetLine _ _ _ _).trans (State.writeSP_resetLine _ _))))
@[simp] theorem State.afterPush_nmiLine (w : Word) : (s.afterPush w).nmiLine = s.nmiLine :=
  (State.afterWrite_nmiLine _ _ _ _).trans (((State.writeSP_nmiLine _ _).trans ((State.afterWrite_nmiLine _ _ _ _).trans (State.writeSP_nmiLine _ _))))
@[simp] theorem State.afterPush_intLine (w : Word) : (s.afterPush w).intLine = s.intLine :=
  (State.afterWrite_intLine _ _ _ _).trans (((State.writeSP_intLine _ _).trans ((State.afterWrite_intLine _ _ _ _).trans (State.writeSP_intLine _ _))))
@[simp] theorem State.afterPush_intData (w : Word) : (s.afterPush w).intData = s.intData :=
  (State.afterWrite_intData _ _ _ _).trans (((State.writeSP_intData _ _).trans ((State.afterWrite_intData _ _ _ _).trans (State.writeSP_intData _ _))))
@[simp] theorem State.afterPush_pfx (w : Word) : (s.afterPush w).pfx = s.pfx :=
  (State.afterWrite_pfx _ _ _ _).trans (((State.writeSP_pfx _ _).trans ((State.afterWrite_pfx _ _ _ _).trans (State.writeSP_pfx _ _))))
@[simp] theorem State.afterPush_map (w : Word) : (s.afterPush w).map = s.map :=
  (State.afterWrite_map _ _ _ _).trans (((State.writeSP_map _ _).trans ((State.afterWrite_map _ _ _ _).trans (State.writeSP_map _ _))))
@[simp] theorem State.afterPush_hooks (w : Word) : (s.afterPush w).hooks = s.hooks :=
  (State.afterWrite_hooks _ _ _ _).trans (((State.writeSP_hooks _ _).trans ((State.afterWrite_hooks _ _ _ _).trans (State.writeSP_hooks _ _))))
@[simp] theorem State.afterPush_portIn (w : Word) : (s.afterPush w).portIn = s.portIn :=
  (State.afterWrite_portIn _ _ _ _).trans (((State.writeSP_portIn _ _).trans ((State.afterWrite_portIn _ _ _ _).trans (State.writeSP_portIn _ _))))
@[simp] theorem State.afterPush_draws (w : Word) : (s.afterPush w).draws = s.draws :=
  (State.afterWrite_draws _ _ _ _).trans (((State.writeSP_draws _ _).trans ((State.afterWrite_draws _ _ _ _).trans (State.writeSP_draws _ _))))

/-! `State.afterPop` -/
@[simp] theorem State.afterPop_af : s.afterPop.af = s.af := by
  simp only [State.afterPop, State.afterRead_af, State.writeSP_af]
@[simp] theorem State.afterPop_bc : s.afterPop.bc = s.bc := by
  simp only [State.afterPop, State.afterRead_bc, State.writeSP_bc]
@[simp] theorem State.afterPop_de : s.afterPop.de = s.de := by
  simp only [State.afterPop, State.afterRead_de, State.writeSP_de]
@[simp] theorem State.afterPop_hl : s.afterPop.hl = s.hl := by
  simp only [State.afterPop, State.afterRead_hl, State.writeSP_hl]
@[simp] theorem State.afterPop_afAlt : s.afterPop.afAlt = s.afAlt := by
  simp only [State.afterPop, State.afterRead_afAlt, State.writeSP_afAlt]
@[simp] theorem State.afterPop_bcAlt : s.afterPop.bcAlt = s.bcAlt := by
  simp only [State.afterPop, State.afterRead_bcAlt, State.writeSP_bcAlt]
@[simp] theorem State.afterPop_deAlt : s.afterPop.deAlt = s.deAlt := by
  simp only [State.afterPop, State.afterRead_deAlt, State.writeSP_deAlt]
@[simp] theorem State.afterPop_hlAlt : s.afterPop.hlAlt = s.hlAlt := by
  simp only [State.afterPop, State.afterRead_hlAlt, State.writeSP_hlAlt]
@[simp] theorem State.afterPop_ix : s.afterPop.ix = s.ix := by
  simp only [State.afterPop, State.afterRead_ix, State.writeSP_ix]
@[simp] theorem State.afterPop_pc : s.afterPop.pc = s.pc := by
  simp only [State.afterPop, State.afterRead_pc, State.writeSP_pc]
@[simp] theorem State.afterPop_latch : s.afterPop.latch = s.latch := by
  simp only [State.afterPop, State.afterRead_latch, State.writeSP_latch]
@[simp] theorem State.afterPop_i : s.afterPop.i = s.i := by
  simp only [State.afterPop, State.afterRead_i, State.writeSP_i]
@[simp] theorem State.afterPop_im : s.afterPop.im = s.im := by
  simp only [State.afterPop, State.afterRead_im, State.writeSP_im]
@[simp] theorem State.afterPop_iff : s.afterPop.iff = s.iff := by
  simp only [State.afterPop, State.afterRead_iff, State.writeSP_iff]
@[simp] theorem State.afterPop_halted : s.afterPop.halted = s.halted := by
  simp only [State.afterPop, State.afterRead_halted, State.writeSP_halted]
@[simp] theorem State.afterPop_powered : s.afterPop.powered = s.powered := by
  simp only [State.afterPop, State.afterRead_powered, State.writeSP_powered]
@[simp] theorem State.afterPop_faulted : s.afterPop.faulted = s.faulted := by
  simp only [State.afterPop, State.afterRead_faulted, State.writeSP_faulted]
@[simp] theorem State.afterPop_cycles : s.afterPop.cycles = s.cycles := by
  simp only [State.afterPop, State.afterRead_cycles, State.writeSP_cycles]
@[simp] theorem State.afterPop_resetLine : s.afterPop.resetLine = s.resetLine := by
  simp only [State.afterPop, State.afterRead_resetLine, State.writeSP_resetLine]
@[simp] theorem State.afterPop_nmiLine : s.afterPop.nmiLine = s.nmiLine := by
  simp only [State.afterPop, State.afterRead_nmiLine, State.writeSP_nmiLine]
@[simp] theorem State.afterPop_intLine : s.afterPop.intLine = s.intLine := by
  simp only [State.afterPop, State.afterRead_intLine, State.writeSP_intLine]
@[simp] theorem State.afterPop_intData : s.afterPop.intData = s.intData := by
  simp only [State.afterPop, State.afterRead_intData, State.writeSP_intData]
@[simp] theorem State.afterPop_pfx : s.afterPop.pfx = s.pfx := by
  simp only [State.afterPop, State.afterRead_pfx, State.writeSP_pfx]
@[simp] theorem State.afterPop_mem : s.afterPop.mem = s.mem := by
  simp only [State.afterPop, State.afterRead_mem, State.writeSP_mem]
@[simp] theorem State.afterPop_map : s.afterPop.map = s.map := by
  simp only [State.afterPop, State.afterRead_map, State.writeSP_map]
@[simp] theorem State.afterPop_hooks : s.afterPop.hooks = s.hooks := by
  simp only [State.afterPop, State.afterRead_hooks, State.writeSP_hooks]
@[simp] theorem State.afterPop_portIn : s.afterPop.portIn = s.portIn := by
  simp only [State.afterPop, State.afterRead_portIn, State.writeSP_portIn]
@[simp] theorem State.afterPop_draws : s.afterPop.draws = s.draws := by
  simp only [State.afterPop, State.afterRead_draws, State.writeSP_draws]

/-! `State.afterRead16` -/
@[simp] theorem State.afterRead16_af (a : Word) : (s.afterRead16 a).af = s.af := by
  simp only [State.afterRead16, State.afterRead_af]
@[simp] theorem State.afterRead16_bc (a : Word) : (s.afterRead16 a).bc = s.bc := by
  simp only [State.afterRead16, State.afterRead_bc]
@[simp] theorem State.afterRead16_de (a : Word) : (s.afterRead16 a).de = s.de := by
  simp only [State.afterRead16, State.afterRead_de]
@[simp] theorem State.afterRead16_hl (a : Word) : (s.afterRead16 a).hl = s.hl := by
  simp only [State.afterRead16, State.afterRead_hl]
@[simp] theorem State.afterRead16_afAlt (a : Word) : (s.afterRead16 a).afAlt = s.afAlt := by
  simp only [State.afterRead16, State.afterRead_afAlt]
@[simp] theorem State.afterRead16_bcAlt (a : Word) : (s.afterRead16 a).bcAlt = s.bcAlt := by
  simp only [State.afterRead16, State.afterRead_bcAlt]
@[simp] theorem State.afterRead16_deAlt (a : Word) : (s.afterRead16 a).deAlt = s.deAlt := by
  simp only [State.afterRead16, State.afterRead_deAlt]
@[simp] theorem State.afterRead16_hlAlt (a : Word) : (s.afterRead16 a).hlAlt = s.hlAlt := by
  simp only [State.afterRead16, State.afterRead_hlAlt]
@[simp] theorem State.afterRead16_ix (a : Word) : (s.afterRead16 a).ix = s.ix := by
  simp only [State.afterRead16, State.afterRead_ix]
@[simp] theorem State.afterRead16_sp (a : Word) : (s.afterRead16 a).sp = s.sp := by
  simp only [State.afterRead16, State.afterRead_sp]
@[simp] theorem State.afterRead16_pc (a : Word) : (s.afterRead16 a).pc = s.pc := by
  simp only [State.afterRead16, State.afterRead_pc]
@[simp] theorem State.afterRead16_latch (a : Word) : (s.afterRead16 a).latch = s.latch := by
  simp only [State.afterRead16, State.afterRead_latch]
@[simp] theorem State.afterRead16_i (a : Word) : (s.afterRead16 a).i = s.i := by
  simp only [State.afterRead16, State.afterRead_i]
@[simp] theorem State.afterRead16_im (a : Word) : (s.afterRead16 a).im = s.im := by
  simp only [State.afterRead16, State.afterRead_im]
@[simp] theorem State.afterRead16_iff (a : Word) : (s.afterRead16 a).iff = s.iff := by
  simp only [State.afterRead16, State.afterRead_iff]
@[simp] theorem State.afterRead16_halted (a : Word) : (s.afterRead16 a).halted = s.halted := by
  simp only [State.afterRead16, State.afterRead_halted]
@[simp] theorem State.afterRead16_powered (a : Word) : (s.afterRead16 a).powered = s.powered := by
  simp only [State.afterRead16, State.afterRead_powered]
@[simp] theorem State.afterRead16_faulted (a : Word) : (s.afterRead16 a).faulted = s.faulted := by
  simp only [State.afterRead16, State.afterRead_faulted]
@[simp] theorem State.afterRead16_cycles (a : Word) : (s.afterRead16 a).cycles = s.cycles := by
  simp only [State.afterRead16, State.afterRead_cycles]
@[simp] theorem State.afterRead16_resetLine (a : Word) : (s.afterRead16 a).resetLine = s.resetLine := by
  simp only [State.afterRead16, State.afterRead_resetLine]
@[simp] theorem State.afterRead16_nmiLine (a : Word) : (s.afterRead16 a).nmiLine = s.nmiLine := by
  simp only [State.afterRead16, State.afterRead_nmiLine]
@[simp] theorem State.afterRead16_intLine (a : Word) : (s.afterRead16 a).intLine = s.intLine := by
  simp only [State.afterRead16, State.afterRead_intLine]
@[simp] theorem State.afterRead16_intData (a : Word) : (s.afterRead16 a).intData = s.intData := by
  simp only [State.afterRead16, State.afterRead_intData]
@[simp] theorem State.afterRead16_pfx (a : Word) : (s.afterRead16 a).pfx = s.pfx := by
  simp only [State.afterRead16, State.afterRead_pfx]
@[simp] theorem State.afterRead16_mem (a : Word) : (s.afterRead16 a).mem = s.mem := by
  simp only [State.afterRead16, State.afterRead_mem]
@[simp] theorem State.afterRead16_map (a : Word) : (s.afterRead16 a).map = s.map := by
  simp only [State.afterRead16, State.afterRead_map]
@[simp] theorem State.afterRead16_hooks (a : Word) : (s.afterRead16 a).hooks = s.hooks := by
  simp only [State.afterRead16, State.afterRead_hooks]
@[simp] theorem State.afterRead16_portIn (a : Word) : (s.afterRead16 a).portIn = s.portIn := by
  simp only [State.afterRead16, State.afterRead_portIn]
@[simp] theorem State.afterRead16_draws (a : Word) : (s.afterRead16 a).draws = s.draws := by
  simp only [State.afterRead16, State.afterRead_draws]

/-! `State.afterWrite16` -/
@[simp] theorem State.afterWrite16_af (a w : Word) : (s.afterWrite16 a w).af = s.af := by
  simp only [State.afterWrite16, State.afterWrite_af]
@[simp] theorem State.afterWrite16_bc (a w : Word) : (s.afterWrite16 a w).bc = s.bc := by
  simp only [State.afterWrite16, State.afterWrite_bc]
@[simp] theorem State.afterWrite16_de (a w : Word) : (s.afterWrite16 a w).de = s.de := by
  simp only [State.afterWrite16, State.afterWrite_de]
@[simp] theorem State.afterWrite16_hl (a w : Word) : (s.afterWrite16 a w).hl = s.hl := by
  simp only [State.afterWrite16, State.afterWrite_hl]
@[simp] theorem State.afterWrite16_afAlt (a w : Word) : (s.afterWrite16 a w).afAlt = s.afAlt := by
  simp only [State.afterWrite16, State.afterWrite_afAlt]
@[simp] theorem State.afterWrite16_bcAlt (a w : Word) : (s.afterWrite16 a w).bcAlt = s.bcAlt := by
  simp only [State.afterWrite16, State.afterWrite_bcAlt]
@[simp] theorem State.afterWrite16_deAlt (a w : Word) : (s.afterWrite16 a w).deAlt = s.deAlt := by
  simp only [State.afterWrite16, State.afterWrite_deAlt]
@[simp] theorem State.afterWrite16_hlAlt (a w : Word) : (s.afterWrite16 a w).hlAlt = s.hlAlt := by
  simp only [State.afterWrite16, State.afterWrite_hlAlt]
@[simp] theorem State.afterWrite16_ix (a w : Word) : (s.afterWrite16 a w).ix = s.ix := by
  simp only [State.afterWrite16, State.afterWrite_ix]
@[simp] theorem State.afterWrite16_sp (a w : Word) : (s.afterWrite16 a w).sp = s.sp := by
  simp only [State.afterWrite16, State.afterWrite_sp]
@[simp] theorem State.afterWrite16_pc (a w : Word) : (s.afterWrite16 a w).pc = s.pc := by
  simp only [State.afterWrite16, State.afterWrite_pc]
@[simp] theorem State.afterWrite16_latch (a w : Word) : (s.afterWrite16 a w).latch = s.latch := by
  simp only [State.afterWrite16, State.afterWrite_latch]
@[simp] theorem State.afterWrite16_i (a w : Word) : (s.afterWrite16 a w).i = s.i := by
  simp only [State.afterWrite16, State.afterWrite_i]
@[simp] theorem State.afterWrite16_im (a w : Word) : (s.afterWrite16 a w).im = s.im := by
  simp only [State.afterWrite16, State.afterWrite_im]
@[simp] theorem State.afterWrite16_iff (a w : Word) : (s.afterWrite16 a w).iff = s.iff := by
  simp only [State.afterWrite16, State.afterWrite_iff]
@[simp] theorem State.afterWrite16_halted (a w : Word) : (s.afterWrite16 a w).halted = s.halted := by
  simp only [State.afterWrite16, State.afterWrite_halted]
@[simp] theorem State.afterWrite16_powered (a w : Word) : (s.afterWrite16 a w).powered = s.powered := by
  simp only [State.afterWrite16, State.afterWrite_powered]
@[simp] theorem State.afterWrite16_faulted (a w : Word) : (s.afterWrite16 a w).faulted = s.faulted := by
  simp only [State.afterWrite16, State.afterWrite_faulted]
@[simp] theorem State.afterWrite16_cycles (a w : Word) : (s.afterWrite16 a w).cycles = s.cycles := by
  simp only [State.afterWrite16, State.afterWrite_cycles]
@[simp] theorem State.afterWrite16_resetLine (a w : Word) : (s.afterWrite16 a w).resetLine = s.resetLine := by
  simp only [State.afterWrite16, State.afterWrite_resetLine]
@[simp] theorem State.afterWrite16_nmiLine (a w : Word) : (s.afterWrite16 a w).nmiLine = s.nmiLine := by
  simp only [State.afterWrite16, State.afterWrite_nmiLine]
@[simp] theorem State.afterWrite16_intLine (a w : Word) : (s.afterWrite16 a w).intLine = s.intLine := by
  simp only [State.afterWrite16, State.afterWrite_intLine]
@[simp] theorem State.afterWrite16_intData (a w : Word) : (s.afterWrite16 a w).intData = s.intData := by
  simp only [State.afterWrite16, State.afterWrite_intData]
@[simp] theorem State.afterWrite16_pfx (a w : Word) : (s.afterWrite16 a w).pfx = s.pfx := by
  simp only [State.afterWrite16, State.afterWrite_pfx]
@[simp] theorem State.afterWrite16_map (a w : Word) : (s.afterWrite16 a w).map = s.map := by
  simp only [State.afterWrite16, State.afterWrite_map]
@[simp] theorem State.afterWrite16_hooks (a w : Word) : (s.afterWrite16 a w).hooks = s.hooks := by
  simp only [State.afterWrite16, State.afterWrite_hooks]
@[simp] theorem State.afterWrite16_portIn (a w : Word) : (s.afterWrite16 a w).portIn = s.portIn := by
  simp only [State.afterWrite16, State.afterWrite_portIn]
@[simp] theorem State.afterWrite16_draws (a w : Word) : (s.afterWrite16 a w).draws = s.draws := by
  simp only [State.afterWrite16, State.afterWrite_draws]

/-! `State.afterFetch` -/
@[simp] theorem State.afterFetch_af (g : Tag) : (s.afterFetch g).af = s.af := by
  simp only [State.afterFetch, State.afterRead_af, State.writePC_af]
@[simp] theorem State.afterFetch_bc (g : Tag) : (s.afterFetch g).bc = s.bc := by
  simp only [State.afterFetch, State.afterRead_bc, State.writePC_bc]
@[simp] theorem State.afterFetch_de (g : Tag) : (s.afterFetch g).de = s.de := by
  simp only [State.afterFetch, State.afterRead_de, State.writePC_de]
@[simp] theorem State.afterFetch_hl (g : Tag) : (s.afterFetch g).hl = s.hl := by
  simp only [State.afterFetch, State.afterRead_hl, State.writePC_hl]
@[simp] theorem State.afterFetch_afAlt (g : Tag) : (s.afterFetch g).afAlt = s.afAlt := by
  simp only [State.afterFetch, State.afterRead_afAlt, State.writePC_afAlt]
@[simp] theorem State.afterFetch_bcAlt (g : Tag) : (s.afterFetch g).bcAlt = s.bcAlt := by
  simp only [State.afterFetch, State.afterRead_bcAlt, State.writePC_bcAlt]
@[simp] theorem State.afterFetch_deAlt (g : Tag) : (s.afterFetch g).deAlt = s.deAlt := by
  simp only [State.afterFetch, State.afterRead_deAlt, State.writePC_deAlt]
@[simp] theorem State.afterFetch_hlAlt (g : Tag) : (s.afterFetch g).hlAlt = s.hlAlt := by
  simp only [State.afterFetch, State.afterRead_hlAlt, State.writePC_hlAlt]
@[simp] theorem State.afterFetch_ix (g : Tag) : (s.afterFetch g).ix = s.ix := by
  simp only [State.afterFetch, State.afterRead_ix, State.writePC_ix]
@[simp] theorem State.afterFetch_sp (g : Tag) : (s.afterFetch g).sp = s.sp := by
  simp only [State.afterFetch, State.afterRead_sp, State.writePC_sp]
@[simp] theorem State.afterFetch_pc (g : Tag) : (s.afterFetch g).pc = s.pc + 1 := by
  simp only [State.afterFetch, State.writePC_pc]
@[simp] theorem State.afterFetch_latch (g : Tag) : (s.afterFetch g).latch = s.latch := by
  simp only [State.afterFetch, State.afterRead_latch, State.writePC_latch]
@[simp] theorem State.afterFetch_i (g : Tag) : (s.afterFetch g).i = s.i := by
  simp only [State.afterFetch, State.afterRead_i, State.writePC_i]
@[simp] theorem State.afterFetch_im (g : Tag) : (s.afterFetch g).im = s.im := by
  simp only [State.afterFetch, State.afterRead_im, State.writePC_im]
@[simp] theorem State.afterFetch_iff (g : Tag) : (s.afterFetch g).iff = s.iff := by
  simp only [State.afterFetch, State.afterRead_iff, State.writePC_iff]
@[simp] theorem State.afterFetch_halted (g : Tag) : (s.afterFetch g).halted = s.halted := by
  simp only [State.afterFetch, State.afterRead_halted, State.writePC_halted]
@[simp] theorem State.afterFetch_powered (g : Tag) : (s.afterFetch g).powered = s.powered := by
  simp only [State.afterFetch, State.afterRead_powered, State.writePC_powered]
@[simp] theorem State.afterFetch_faulted (g : Tag) : (s.afterFetch g).faulted = s.faulted := by
  simp only [State.afterFetch, State.afterRead_faulted, State.writePC_faulted]
@[simp] theorem State.afterFetch_cycles (g : Tag) : (s.afterFetch g).cycles = s.cycles := by
  simp only [State.afterFetch, State.afterRead_cycles, State.writePC_cycles]
@[simp] theorem State.afterFetch_resetLine (g : Tag) : (s.afterFetch g).resetLine = s.resetLine := by
  simp only [State.afterFetch, State.afterRead_resetLine, State.writePC_resetLine]
@[simp] theorem State.afterFetch_nmiLine (g : Tag) : (s.afterFetch g).nmiLine = s.nmiLine := by
  simp only [State.afterFetch, State.afterRead_nmiLine, State.writePC_nmiLine]
@[simp] theorem State.afterFetch_intLine (g : Tag) : (s.afterFetch g).intLine = s.intLine := by
  simp only [State.afterFetch, State.afterRead_intLine, State.writePC_intLine]
@[simp] theorem State.afterFetch_intData (g : Tag) : (s.afterFetch g).intData = s.intData := by
  simp only [State.afterFetch, State.afterRead_intData, State.writePC_intData]
@[simp] theorem State.afterFetch_pfx (g : Tag) : (s.afterFetch g).pfx = s.pfx := by
  simp only [State.afterFetch, State.afterRead_pfx, State.writePC_pfx]
@[simp] theorem State.afterFetch_mem (g : Tag) : (s.afterFetch g).mem = s.mem := by
  simp only [State.afterFetch, State.afterRead_mem, State.writePC_mem]
@[simp] theorem State.afterFetch_map (g : Tag) : (s.afterFetch g).map = s.map := by
  simp only [State.afterFetch, State.afterRead_map, State.writePC_map]
@[simp] theorem State.afterFetch_hooks (g : Tag) : (s.afterFetch g).hooks = s.hooks := by
  simp only [State.afterFetch, State.afterRead_hooks, State.writePC_hooks]
@[simp] theorem State.afterFetch_portIn (g : Tag) : (s.afterFetch g).portIn = s.portIn := by
  simp only [State.afterFetch, State.afterRead_portIn, State.writePC_portIn]
@[simp] theorem State.afterFetch_draws (g : Tag) : (s.afterFetch g).draws = s.draws := by
  simp only [State.afterFetch, State.afterRead_draws, State.writePC_draws]

/-! `State.afterRead8` -/
@[simp] theorem State.afterRead8_af (l : Loc) : (s.afterRead8 l).af = s.af := by cases l <;> rfl
@[simp] theorem State.afterRead8_bc (l : Loc) : (s.afterRead8 l).bc = s.bc := by cases l <;> rfl
@[simp] theorem State.afterRead8_de (l : Loc) : (s.afterRead8 l).de = s.de := by cases l <;> rfl
@[simp] theorem State.afterRead8_hl (l : Loc) : (s.afterRead8 l).hl = s.hl := by cases l <;> rfl
@[simp] theorem State.afterRead8_afAlt (l : Loc) : (s.afterRead8 l).afAlt = s.afAlt := by cases l <;> rfl
@[simp] theorem State.afterRead8_bcAlt (l : Loc) : (s.afterRead8 l).bcAlt = s.bcAlt := by cases l <;> rfl
@[simp] theorem State.afterRead8_deAlt (l : Loc) : (s.afterRead8 l).deAlt = s.deAlt := by cases l <;> rfl
@[simp] theorem State.afterRead8_hlAlt (l : Loc) : (s.afterRead8 l).hlAlt = s.hlAlt := by cases l <;> rfl
@[simp] theorem State.afterRead8_ix (l : Loc) : (s.afterRead8 l).ix = s.ix := by cases l <;> rfl
@[simp] theorem State.afterRead8_sp (l : Loc) : (s.afterRead8 l).sp = s.sp := by cases l <;> rfl
@[simp] theorem State.afterRead8_pc (l : Loc) : (s.afterRead8 l).pc = s.pc := by cases l <;> rfl
@[simp] theorem State.afterRead8_i (l : Loc) : (s.afterRead8 l).i = s.i := by cases l <;> rfl
@[simp] theorem State.afterRead8_im (l : Loc) : (s.afterRead8 l).im = s.im := by cases l <;> rfl
@[simp] theorem State.afterRead8_iff (l : Loc) : (s.afterRead8 l).iff = s.iff := by cases l <;> rfl
@[simp] theorem State.afterRead8_halted (l : Loc) : (s.afterRead8 l).halted = s.halted := by cases l <;> rfl
@[simp] theorem State.afterRead8_powered (l : Loc) : (s.afterRead8 l).powered = s.powered := by cases l <;> rfl
@[simp] theorem State.afterRead8_faulted (l : Loc) : (s.afterRead8 l).faulted = s.faulted := by cases l <;> rfl
@[simp] theorem State.afterRead8_cycles (l : Loc) : (s.afterRead8 l).cycles = s.cycles := by cases l <;> rfl
@[simp] theorem State.afterRead8_resetLine (l : Loc) : (s.afterRead8 l).resetLine = s.resetLine := by cases l <;> rfl
@[simp] theorem State.afterRead8_nmiLine (l : Loc) : (s.afterRead8 l).nmiLine = s.nmiLine := by cases l <;> rfl
@[simp] theorem State.afterRead8_intLine (l : Loc) : (s.afterRead8 l).intLine = s.intLine := by cases l <;> rfl
@[simp] theorem State.afterRead8_intData (l : Loc) : (s.afterRead8 l).intData = s.intData := by cases l <;> rfl
@[simp] theorem State.afterRead8_pfx (l : Loc) : (s.afterRead8 l).pfx = s.pfx := by cases l <;> rfl
@[simp] theorem State.afterRead8_mem (l : Loc) : (s.afterRead8 l).mem = s.mem := by cases l <;> rfl
@[simp] theorem State.afterRead8_map (l : Loc) : (s.afterRead8 l).map = s.map := by cases l <;> rfl
@[simp] theorem State.afterRead8_hooks (l : Loc) : (s.afterRead8 l).hooks = s.hooks := by cases l <;> rfl
@[simp] theorem State.afterRead8_portIn (l : Loc) : (s.afterRead8 l).portIn = s.portIn := by cases l <;> rfl
@[simp] theorem State.afterRead8_draws (l : Loc) : (s.afterRead8 l).draws = s.draws := by cases l <;> rfl

/-! `State.wake` -/
@[simp] theorem State.wake_af : s.wake.af = s.af := by
  unfold State.wake; split <;> simp_all
@[simp] theorem State.wake_bc : s.wake.bc = s.bc := by
  unfold State.wake; split <;> simp_all
@[simp] theorem State.wake_de : s.wake.de = s.de := by
  unfold State.wake; split <;> simp_all
@[simp] theorem State.wake_hl : s.wake.hl = s.hl := by
  unfold State.wake; split <;> simp_all
@[simp] theorem State.wake_afAlt : s.wake.afAlt = s.afAlt := by
  unfold State.wake; split <;> simp_all
@[simp] theorem State.wake_bcAlt : s.wake.bcAlt = s.bcAlt := by
  unfold State.wake; split <;> simp_all
@[simp] theorem State.wake_deAlt : s.wake.deAlt = s.deAlt := by
  unfold State.wake; split <;> simp_all
@[simp] theorem State.wake_hlAlt : s.wake.hlAlt = s.hlAlt := by
  unfold State.wake; split <;> simp_all
@[simp] theorem State.wake_ix : s.wake.ix = s.ix := by
  unfold State.wake; split <;> simp_all
@[simp] theorem State.wake_sp : s.wake.sp = s.sp := by
  unfold State.wake; split <;> simp_all
@[simp] theorem State.wake_pc : s.wake.pc = if s.halted then s.pc + 1 else s.pc := by
  unfold State.wake; split <;> simp_all
@[simp] theorem State.wake_latch : s.wake.latch = s.latch := by
  unfold State.wake; split <;> simp_all
@[simp] theorem State.wake_i : s.wake.i = s.i := by
  unfold State.wake; split <;> simp_all
@[simp] theorem State.wake_im : s.wake.im = s.im := by
  unfold State.wake; split <;> simp_all
@[simp] theorem State.wake_iff : s.wake.iff = s.iff := by
  unfold State.wake; split <;> simp_all
@[simp] theorem State.wake_halted : s.wake.halted = false := by
  unfold State.wake; split <;> simp_all
@[simp] theorem State.wake_powered : s.wake.powered = s.powered := by
  unfold State.wake; split <;> simp_all
@[simp] theorem State.wake_faulted : s.wake.faulted = s.faulted := by
  unfold State.wake; split <;> simp_all
@[simp] theorem State.wake_cycles : s.wake.cycles = s.cycles := by
  unfold State.wake; split <;> simp_all
@[simp] theorem State.wake_resetLine : s.wake.resetLine = s.resetLine := by
  unfold State.wake; split <;> simp_all
@[simp] theorem State.wake_nmiLine : s.wake.nmiLine = s.nmiLine := by
  unfold State.wake; split <;> simp_all
@[simp] theorem State.wake_intLine : s.wake.intLine = s.intLine := by
  unfold State.wake; split <;> simp_all
@[simp] theorem State.wake_intData : s.wake.intData = s.intData := by
  unfold State.wake; split <;> simp_all
@[simp] theorem State.wake_address : s.wake.address = s.address := by
  unfold State.wake; split <;> simp_all
@[simp] theorem State.wake_data : s.wake.data = s.data := by
  unfold State.wake; split <;> simp_all
@[simp] theorem State.wake_pfx : s.wake.pfx = s.pfx := by
  unfold State.wake; split <;> simp_all
@[simp] theorem State.wake_mem : s.wake.mem = s.mem := by
  unfold State.wake; split <;> simp_all
@[simp] theorem State.wake_map : s.wake.map = s.map := by
  unfold State.wake; split <;> simp_all
@[simp] theorem State.wake_trace : s.wake.trace = s.trace := by
  unfold State.wake; split <;> simp_all
@[simp] theorem State.wake_events : s.wake.events = s.events := by
  unfold State.wake; split <;> simp_all
@[simp] theorem State.wake_hooks : s.wake.hooks = s.hooks := by
  unfold State.wake; split <;> simp_all
@[simp] theorem State.wake_portIn : s.wake.portIn = s.portIn := by
  unfold State.wake; split <;> simp_all
@[simp] theorem State.wake_draws : s.wake.draws = s.draws := by
  unfold State.wake; split <;> simp_all

/-! Where an update has a choice of register, its effect by the choice. -/

@[simp] theorem State.write16_read16 (r : Reg16) (w : Word) : (s.write16 r w).read16 r = w := by cases r <;> rfl

theorem State.write16_read16_of_ne (r q : Reg16) (w : Word) (h : q ≠ r) : (s.write16 r w).read16 q = s.read16 q := by
  cases r <;> cases q <;> first | rfl | exact absurd rfl h

@[simp] theorem State.drive_reset (b : Bool) : (s.drive .reset b).resetLine = b := rfl
@[simp] theorem State.drive_reset_nmi (b : Bool) : (s.drive .reset b).nmiLine = s.nmiLine := rfl
@[simp] theorem State.drive_reset_int (b : Bool) : (s.drive .reset b).intLine = s.intLine := rfl
@[simp] theorem State.drive_nmi (b : Bool) : (s.drive .nmi b).nmiLine = b := rfl
@[simp] theorem State.drive_nmi_reset (b : Bool) : (s.drive .nmi b).resetLine = s.resetLine := rfl
@[simp] theorem State.drive_nmi_int (b : Bool) : (s.drive .nmi b).intLine = s.intLine := rfl
@[simp] theorem State.drive_int (b : Bool) : (s.drive .int b).intLine = b := rfl
@[simp] theorem State.drive_int_reset (b : Bool) : (s.drive .int b).resetLine = s.resetLine := rfl
@[simp] theorem State.drive_int_nmi (b : Bool) : (s.drive .int b).nmiLine = s.nmiLine := rfl

end Sys2Proof.Machine
end

