-- ==== Sys2Proof/Laws/Ops.lean ====
section
/-! SUPPORT. What each shared operation can do, said once: its result on the REF bus, and on any bus what it keeps. -/

namespace Sys2Proof.Machine

/-! ## Sequencing -/

@[simp] theorem Res.bind_ok {α β : Type} (a : α) (s : State) (k : α → State → Res β) : (Res.ok a s).bind k = k a s := rfl

@[simp] theorem Res.bind_fault {α β : Type} (f : Fault) (k : α → State → Res β) :
    (Res.fault f : Res α).bind k = .fault f := rfl

@[simp] theorem Res.finish_ok (u : Unit) (s : State) (n : Nat) : (Res.ok u s).finish n = .next (s.addCycles n) := rfl

@[simp] theorem Res.finish_fault (f : Fault) (n : Nat) : (Res.fault f : Res Unit).finish n = .fault f := rfl

/-- A sequence that answers a value went through its first part. -/
theorem Res.bind_eq_ok {α β : Type} {r : Res α} {k : α → State → Res β} {b : β} {t : State} (h : r.bind k = .ok b t) :
    ∃ a s, r = .ok a s ∧ k a s = .ok b t := by
  cases r with
  | ok a s => exact ⟨a, s, rfl, h⟩
  | fault f => cases h

/-- A finished operation that answers a next state went through, and added its cost. -/
theorem Res.finish_eq_next {r : Res Unit} {n : Nat} {t : State} (h : r.finish n = .next t) :
    ∃ s, r = .ok () s ∧ t = s.addCycles n := by
  cases r with
  | ok a s => cases h; exact ⟨s, rfl, rfl⟩
  | fault f => cases h

/-! ## The REF bus (20 R65) -/

@[simp] theorem mapAddr_ref (a : Word) : mapAddr [refRegion] a = some refRegion := by
  have h : a.toNat ≤ 65535 := by have := a.isLt; omega
  simp [mapAddr, Region.covers, refRegion, h]

@[simp] theorem offset_ref (a : Word) : refRegion.offset a = a.toNat := by
  have h : ((a - 0#16) &&& BitVec.allOnes 16) = a := by rw [BitVec.sub_zero, BitVec.and_allOnes]
  exact congrArg BitVec.toNat h

theorem hook_ref {s : State} (h : s.hooks = []) (e : Event) : s.hook e = s.emit e := by
  simp [State.hook, h]

/-! What leaves the bus the REF bus. -/

theorem ref_writeSP {s : State} (h : s.onRefBus) (w : Word) : (s.writeSP w).onRefBus := h

theorem ref_writePC {s : State} (h : s.onRefBus) (w : Word) : (s.writePC w).onRefBus := h

theorem ref_writeLatch {s : State} (h : s.onRefBus) (w : Word) : (s.writeLatch w).onRefBus := h

theorem ref_afterRead {s : State} (h : s.onRefBus) (a : Word) (g : Tag) : (s.afterRead a g).onRefBus := h

theorem ref_afterWrite {s : State} (h : s.onRefBus) (a : Word) (v : Byte) (g : Tag) :
    (s.afterWrite a v g).onRefBus := h

/-- 20 R66 on the REF bus: a read answers the byte, and never faults. -/
theorem memRead_ref {s : State} (h : s.onRefBus) (a : Word) (g : Tag) :
    memRead a g s = .ok (s.byteAt a) (s.afterRead a g) := by
  obtain ⟨hm, hk⟩ := h
  have ha : a.toNat < 65536 := a.isLt
  simp only [memRead, hook_ref (s := s.writeAddress a) hk, State.emit_map, State.writeAddress_map, hm, mapAddr_ref,
    offset_ref, State.emit_mem, State.writeAddress_mem]
  rw [if_pos (show a.toNat < refRegion.length from ha), hook_ref (by exact hk)]
  simp [State.afterRead, State.byteAt, State.record, State.emit, State.writeData, State.writeAddress, refRegion,
    List.append_assoc]

/-- 20 R67 on the REF bus: a write stores the byte, and never faults. -/
theorem memWrite_ref {s : State} (h : s.onRefBus) (a : Word) (v : Byte) (g : Tag) :
    memWrite a v g s = .ok () (s.afterWrite a v g) := by
  obtain ⟨hm, hk⟩ := h
  have ha : a.toNat < 65536 := a.isLt
  simp only [memWrite, hook_ref (s := (s.writeAddress a).writeData v) hk, State.emit_map, State.writeData_map,
    State.writeAddress_map, hm, mapAddr_ref, offset_ref]
  rw [show refRegion.access = .readWrite from rfl]
  simp only []
  rw [if_pos (show a.toNat < refRegion.length from ha), hook_ref (by exact hk)]
  simp [State.afterWrite, State.record, State.emit, State.writeData, State.writeAddress, State.writeMem, refRegion,
    List.append_assoc]

/-- 20 R74 where the environment makes no move at the hooks. -/
theorem ioRead_ref {s : State} (h : s.hooks = []) (p : Byte) :
    ioRead p s = .ok (ioAnswer p s) (s.afterPortRead p (ioAnswer p s)) := by
  simp only [ioRead, hook_ref (s := s.writeAddress (zeroExt p)) h]
  rw [hook_ref (by exact h)]
  simp [State.afterPortRead, State.record, State.emit, State.writeData, State.writeAddress, State.dropAnswer, ioAnswer,
    List.append_assoc]

/-- 20 R75 where the environment makes no move at the hooks. -/
theorem ioWrite_ref {s : State} (h : s.hooks = []) (p v : Byte) :
    ioWrite p v s = .ok () (s.afterPortWrite p v) := by
  simp only [ioWrite, hook_ref (s := (s.writeAddress (zeroExt p)).writeData v) h]
  rw [hook_ref (by exact h)]
  simp [State.afterPortWrite, State.record, State.emit, State.writeData, State.writeAddress, List.append_assoc]

/-- The byte at an address after a write transaction. -/
theorem byteAt_afterWrite (s : State) (a b : Word) (v : Byte) (g : Tag) :
    (s.afterWrite a v g).byteAt b = if b = a then v else s.byteAt b := by
  by_cases h : b = a
  · subst h; simp [State.byteAt]
  · have hn : b.toNat ≠ a.toNat := fun e => h (BitVec.eq_of_toNat_eq e)
    simp [State.byteAt, h, Memory.read_write_other _ _ _ _ hn]

@[simp] theorem byteAt_afterRead (s : State) (a b : Word) (g : Tag) : (s.afterRead a g).byteAt b = s.byteAt b := rfl

@[simp] theorem byteAt_writeSP (s : State) (w b : Word) : (s.writeSP w).byteAt b = s.byteAt b := rfl

@[simp] theorem byteAt_writePC (s : State) (w b : Word) : (s.writePC w).byteAt b = s.byteAt b := rfl

@[simp] theorem byteAt_writeLatch (s : State) (w b : Word) : (s.writeLatch w).byteAt b = s.byteAt b := rfl

@[simp] theorem byteAt_addCycles (s : State) (n : Nat) (b : Word) : (s.addCycles n).byteAt b = s.byteAt b := rfl

@[simp] theorem byteAt_writeA (s : State) (v : Byte) (b : Word) : (s.writeA v).byteAt b = s.byteAt b := rfl

@[simp] theorem byteAt_writeF (s : State) (v : Byte) (b : Word) : (s.writeF v).byteAt b = s.byteAt b := rfl

@[simp] theorem byteAt_write8 (s : State) (r : Reg8) (v : Byte) (b : Word) : (s.write8 r v).byteAt b = s.byteAt b := by
  cases r <;> rfl

@[simp] theorem byteAt_write16 (s : State) (r : Reg16) (w b : Word) : (s.write16 r w).byteAt b = s.byteAt b := by
  cases r <;> rfl

@[simp] theorem byteAt_writeStackReg (s : State) (r : StackReg) (w b : Word) :
    (s.writeStackReg r w).byteAt b = s.byteAt b := by
  cases r <;> rfl

@[simp] theorem byteAt_writeIFF (s : State) (e : Bool) (b : Word) : (s.writeIFF e).byteAt b = s.byteAt b := rfl

@[simp] theorem byteAt_writePfx (s : State) (p : PrefixState) (b : Word) : (s.writePfx p).byteAt b = s.byteAt b := rfl

@[simp] theorem byteAt_emit (s : State) (e : Event) (b : Word) : (s.emit e).byteAt b = s.byteAt b := rfl

@[simp] theorem byteAt_afterRead8 (s : State) (l : Loc) (b : Word) : (s.afterRead8 l).byteAt b = s.byteAt b := by
  cases l <;> rfl

@[simp] theorem byteAt_afterPortRead (s : State) (p v : Byte) (b : Word) :
    (s.afterPortRead p v).byteAt b = s.byteAt b := rfl

@[simp] theorem byteAt_afterPortWrite (s : State) (p v : Byte) (b : Word) :
    (s.afterPortWrite p v).byteAt b = s.byteAt b := rfl

theorem memRead16_ref {s : State} (h : s.onRefBus) (a : Word) :
    memRead16 a .data s = .ok (s.wordAt a) (s.afterRead16 a) := by
  simp [memRead16, memRead_ref h, memRead_ref (ref_afterRead h a .data), State.wordAt,
    State.afterRead16]

theorem memWrite16_ref {s : State} (h : s.onRefBus) (a w : Word) :
    memWrite16 a w .data s = .ok () (s.afterWrite16 a w) := by
  simp [memWrite16, memWrite_ref h, memWrite_ref (ref_afterWrite h a (loByte w) .data),
    State.afterWrite16]

theorem add_max_max (w : Word) : w + 0xFFFF + 0xFFFF = w + 0xFFFE := by
  rw [BitVec.add_assoc]; congr 1

theorem add_one_one (w : Word) : w + 1 + 1 = w + 2 := by
  rw [BitVec.add_assoc]; congr 1

theorem push16_ref {s : State} (h : s.onRefBus) (w : Word) : push16 w s = .ok () (s.afterPush w) := by
  unfold push16
  dsimp only []
  rw [memWrite_ref (ref_writeSP h _), Res.bind_ok]
  rw [memWrite_ref (ref_writeSP (ref_afterWrite (ref_writeSP h _) _ _ _) _)]
  simp only [State.afterPush, State.writeSP_sp, State.afterWrite_sp, add_max_max]

theorem pop16_ref {s : State} (h : s.onRefBus) : pop16 s = .ok s.stackTop s.afterPop := by
  unfold pop16
  dsimp only []
  rw [memRead_ref h, Res.bind_ok]
  rw [memRead_ref (ref_writeSP (ref_afterRead h _ _) _), Res.bind_ok]
  simp only [State.stackTop, State.afterPop, State.writeSP_sp, State.afterRead_sp, add_one_one, byteAt_writeSP,
    byteAt_afterRead]

theorem fetchByte_ref {s : State} (h : s.onRefBus) (g : Tag) :
    fetchByte g s = .ok (s.byteAt s.pc) (s.afterFetch g) := by
  simp [fetchByte, memRead_ref h, State.afterFetch]

theorem readLoc_ref {s : State} (h : s.onRefBus) (l : Loc) : readLoc l s = .ok (s.value8 l) (s.afterRead8 l) := by
  cases l with
  | reg r => rfl
  | atHL => simp [readLoc, memRead_ref h, State.value8, State.afterRead8]
  | atIX d =>
    simp only [readLoc, State.indexed]
    rw [memRead_ref (ref_writeLatch h _)]
    rfl

theorem writeLoc_ref {s : State} (h : s.onRefBus) (l : Loc) (v : Byte) :
    writeLoc l v s = .ok () (s.afterWrite8 l v) := by
  cases l with
  | reg r => rfl
  | atHL => simp [writeLoc, memWrite_ref h, State.afterWrite8]
  | atIX d =>
    simp only [writeLoc, State.indexed]
    rw [memWrite_ref (ref_writeLatch h _)]
    rfl

/-! ## Any bus: what a hook and a transaction keep (20 R78) -/

/-- What belongs to the block but for the bus latches and the logs: a bus transaction changes none of it (20 R78). -/
structure SameBlock (s t : State) : Prop where
  af : t.af = s.af
  bc : t.bc = s.bc
  de : t.de = s.de
  hl : t.hl = s.hl
  afAlt : t.afAlt = s.afAlt
  bcAlt : t.bcAlt = s.bcAlt
  deAlt : t.deAlt = s.deAlt
  hlAlt : t.hlAlt = s.hlAlt
  ix : t.ix = s.ix
  sp : t.sp = s.sp
  pc : t.pc = s.pc
  latch : t.latch = s.latch
  i : t.i = s.i
  im : t.im = s.im
  iff : t.iff = s.iff
  halted : t.halted = s.halted
  powered : t.powered = s.powered
  faulted : t.faulted = s.faulted
  cycles : t.cycles = s.cycles
  pfx : t.pfx = s.pfx

theorem SameBlock.refl (s : State) : SameBlock s s := by constructor <;> rfl

theorem SameBlock.trans {s t u : State} (h : SameBlock s t) (k : SameBlock t u) : SameBlock s u where
  af := k.af.trans h.af
  bc := k.bc.trans h.bc
  de := k.de.trans h.de
  hl := k.hl.trans h.hl
  afAlt := k.afAlt.trans h.afAlt
  bcAlt := k.bcAlt.trans h.bcAlt
  deAlt := k.deAlt.trans h.deAlt
  hlAlt := k.hlAlt.trans h.hlAlt
  ix := k.ix.trans h.ix
  sp := k.sp.trans h.sp
  pc := k.pc.trans h.pc
  latch := k.latch.trans h.latch
  i := k.i.trans h.i
  im := k.im.trans h.im
  iff := k.iff.trans h.iff
  halted := k.halted.trans h.halted
  powered := k.powered.trans h.powered
  faulted := k.faulted.trans h.faulted
  cycles := k.cycles.trans h.cycles
  pfx := k.pfx.trans h.pfx

theorem apply_sameBlock (s : State) (m : EnvMove) : SameBlock s (s.apply m) := by
  cases m with
  | _ => constructor <;> rfl

theorem applyAll_sameBlock (moves : List EnvMove) (s : State) : SameBlock s (s.applyAll moves) := by
  induction moves generalizing s with
  | nil => exact .refl s
  | cons m rest ih => exact (apply_sameBlock s m).trans (ih _)

/-- The environment changes no register, flag, `LATCH` or control bit at a hook. -/
theorem hook_sameBlock (s : State) (e : Event) : SameBlock s (s.hook e) := by
  unfold State.hook
  split
  · constructor <;> rfl
  · exact SameBlock.trans (t := (s.emit e).writeHooks _) (by constructor <;> rfl) (applyAll_sameBlock _ _)

theorem apply_wf {s : State} (m : EnvMove) (h : Memory.wf s.mem = true) : Memory.wf (s.apply m).mem = true := by
  cases m with
  | poke k v => exact Memory.wf_write k v h
  | _ => exact h

theorem applyAll_wf (moves : List EnvMove) {s : State} (h : Memory.wf s.mem = true) :
    Memory.wf (s.applyAll moves).mem = true := by
  induction moves generalizing s with
  | nil => exact h
  | cons m rest ih => exact ih (apply_wf m h)

/-- The environment keeps the canonical form of memory at a hook. -/
theorem hook_wf {s : State} (e : Event) (h : Memory.wf s.mem = true) : Memory.wf (s.hook e).mem = true := by
  unfold State.hook
  split
  · exact h
  · exact applyAll_wf _ h

theorem writeAddress_sameBlock (s : State) (a : Word) : SameBlock s (s.writeAddress a) := by constructor <;> rfl

theorem writeData_sameBlock (s : State) (v : Byte) : SameBlock s (s.writeData v) := by constructor <;> rfl

theorem writeMem_sameBlock (s : State) (k : Nat) (v : Byte) : SameBlock s (s.writeMem k v) := by constructor <;> rfl

theorem record_sameBlock (s : State) (t : Transaction) : SameBlock s (s.record t) := by constructor <;> rfl

theorem dropAnswer_sameBlock (s : State) : SameBlock s s.dropAnswer := by constructor <;> rfl

/-- 20 R66 on any bus: a read that answers keeps the block's state but the latches and logs. -/
theorem memRead_sameBlock {a : Word} {g : Tag} {s t : State} {v : Byte} (h : memRead a g s = .ok v t) : SameBlock s t := by
  simp only [memRead] at h
  split at h
  · cases h
  · split at h
    · cases h
      exact (writeAddress_sameBlock s a).trans ((hook_sameBlock _ _).trans ((writeData_sameBlock _ _).trans
        ((hook_sameBlock _ _).trans (record_sameBlock _ _))))
    · cases h

/-- 20 R66 on any bus: a read keeps the canonical form. -/
theorem memRead_wf {a : Word} {g : Tag} {s t : State} {v : Byte} (h : memRead a g s = .ok v t)
    (hw : Memory.wf s.mem = true) : Memory.wf t.mem = true := by
  simp only [memRead] at h
  split at h
  · cases h
  · split at h
    · cases h
      exact hook_wf (s := ((s.writeAddress a).hook _).writeData _) _ (hook_wf (s := s.writeAddress a) _ hw)
    · cases h

/-- 20 R67 on any bus: a write that answers keeps the block's state but the latches and logs. -/
theorem memWrite_sameBlock {a : Word} {v : Byte} {g : Tag} {s t : State} (h : memWrite a v g s = .ok () t) :
    SameBlock s t := by
  simp only [memWrite] at h
  split at h
  · cases h
  · split at h
    · cases h
    · split at h
      · cases h
        exact (writeAddress_sameBlock s a).trans ((writeData_sameBlock _ v).trans ((hook_sameBlock _ _).trans
          ((writeMem_sameBlock _ _ _).trans ((hook_sameBlock _ _).trans (record_sameBlock _ _)))))
      · cases h

/-- 20 R74 on any bus: a port read keeps the block's state but the latches and logs. -/
theorem ioRead_sameBlock {p : Byte} {s t : State} {v : Byte} (h : ioRead p s = .ok v t) : SameBlock s t := by
  simp only [ioRead] at h
  cases h
  exact (writeAddress_sameBlock s _).trans ((hook_sameBlock _ _).trans ((dropAnswer_sameBlock _).trans
    ((writeData_sameBlock _ _).trans ((hook_sameBlock _ _).trans (record_sameBlock _ _)))))

/-- 20 R75 on any bus: a port write keeps the block's state but the latches and logs. -/
theorem ioWrite_sameBlock {p v : Byte} {s t : State} (h : ioWrite p v s = .ok () t) : SameBlock s t := by
  simp only [ioWrite] at h
  cases h
  exact (writeAddress_sameBlock s _).trans ((writeData_sameBlock _ v).trans ((hook_sameBlock _ _).trans
    ((hook_sameBlock _ _).trans (record_sameBlock _ _))))

/-- 20 R74 on any bus: a port read keeps the canonical form. -/
theorem ioRead_wf {p : Byte} {s t : State} {v : Byte} (h : ioRead p s = .ok v t) (hw : Memory.wf s.mem = true) :
    Memory.wf t.mem = true := by
  simp only [ioRead] at h
  cases h
  exact hook_wf (s := ((s.writeAddress _).hook _).dropAnswer.writeData _) _ (hook_wf (s := s.writeAddress _) _ hw)

/-- 20 R75 on any bus: a port write keeps the canonical form. -/
theorem ioWrite_wf {p v : Byte} {s t : State} (h : ioWrite p v s = .ok () t) (hw : Memory.wf s.mem = true) :
    Memory.wf t.mem = true := by
  simp only [ioWrite] at h
  cases h
  exact hook_wf _ (hook_wf (s := (s.writeAddress _).writeData v) _ hw)

/-- 20 R67 on any bus: a write keeps the canonical form. -/
theorem memWrite_wf {a : Word} {v : Byte} {g : Tag} {s t : State} (h : memWrite a v g s = .ok () t)
    (hw : Memory.wf s.mem = true) : Memory.wf t.mem = true := by
  simp only [memWrite] at h
  split at h
  · cases h
  · split at h
    · cases h
    · split at h
      · cases h
        exact hook_wf (s := (((s.writeAddress a).writeData v).hook _).writeMem _ v) _
          (Memory.wf_write _ _ (hook_wf (s := (s.writeAddress a).writeData v) _ hw))
      · cases h

end Sys2Proof.Machine
end

