-- ==== Sys2Proof/Laws/Environment.lean ====
section
/-! SUPPORT. What 60 R400 assumes of the environment: how to show a map in bounds, and that a move, a hook and each bus
transaction keep the map in bounds and the raised `RESET` and `NMI` raised. -/

namespace Sys2Proof.Machine

/-! ## The map stays in bounds (20 R63) -/

/-- 20 R63's invariant, address by address. -/
theorem mapInBounds_iff {m : List Region} :
    mapInBounds m = true ↔ ∀ a r, mapAddr m a = some r → r.offset a < r.length := by
  unfold mapInBounds offsetInStore
  rw [List.all_eq_true]
  refine ⟨fun h a r hr => ?_, fun h k _ => ?_⟩
  · have := h a.toNat (List.mem_range.2 a.isLt)
    rw [BitVec.ofNat_toNat, BitVec.setWidth_eq, hr] at this
    exact of_decide_eq_true this
  · split
    · rfl
    · rename_i r hr
      exact decide_eq_true (h _ r hr)

/-- A map is in bounds if every region's mask is smaller than its store. -/
theorem mapInBounds_of_mask {m : List Region} (h : ∀ r ∈ m, r.mask.toNat < r.length) : mapInBounds m = true := by
  refine mapInBounds_iff.2 fun a r hr => Nat.lt_of_le_of_lt ?_ (h r (List.mem_of_find?_eq_some hr))
  unfold Region.offset
  rw [BitVec.toNat_and]
  exact Nat.and_le_right

/-- The REF map keeps 20 R63's invariant. -/
theorem mapInBounds_ref : mapInBounds [refRegion] = true := mapInBounds_of_mask (by decide)

theorem apply_mapInBounds {s : State} (m : EnvMove) (h : mapInBounds s.map = true) :
    mapInBounds (s.apply m).map = true := by
  cases m with
  | remap m => exact m.inBounds
  | _ => exact h

theorem applyAll_mapInBounds (moves : List EnvMove) {s : State} (h : mapInBounds s.map = true) :
    mapInBounds (s.applyAll moves).map = true := by
  induction moves generalizing s with
  | nil => exact h
  | cons m rest ih => exact ih (apply_mapInBounds m h)

/-- A bus hook keeps the map in bounds, whatever the environment does at it. -/
theorem hook_mapInBounds {s : State} (e : Event) (h : mapInBounds s.map = true) :
    mapInBounds (s.hook e).map = true := by
  unfold State.hook
  split
  · exact h
  · exact applyAll_mapInBounds _ h

/-- An operation that keeps the map in bounds, and never meets an offset outside a store. -/
structure Res.InBounds {α : Type} (r : Res α) : Prop where
  keeps : ∀ a t, r = .ok a t → mapInBounds t.map = true
  never : ∀ left a, r ≠ .fault (.configurationError left .outOfBounds a)

theorem Res.inBounds_ok {α : Type} {s : State} (a : α) (h : mapInBounds s.map = true) : (Res.ok a s).InBounds where
  keeps b t e := by cases e; exact h
  never left b e := by cases e

theorem Res.inBounds_bind {α β : Type} {r : Res α} {k : α → State → Res β} (h : r.InBounds)
    (hk : ∀ a t, mapInBounds t.map = true → (k a t).InBounds) : (r.bind k).InBounds := by
  cases r with
  | ok a t => exact hk a t (h.keeps a t rfl)
  | fault f =>
    refine ⟨fun b t e => (by cases e), fun left a e => h.never left a ?_⟩
    cases e
    rfl

theorem configFault_inBounds {α : Type} {kind : ConfigKind} {a : Word} {s : State} (h : kind ≠ .outOfBounds) :
    (configFault kind a s : Res α).InBounds where
  keeps b t e := by cases e
  never left b e := by cases e; exact h rfl

theorem memRead_inBounds {a : Word} {g : Tag} {s : State} (h : mapInBounds s.map = true) : (memRead a g s).InBounds := by
  have h1 := hook_mapInBounds (s := s.writeAddress a) (.reading a) h
  unfold memRead
  dsimp only
  generalize (s.writeAddress a).hook (.reading a) = s1 at h1
  split
  · exact configFault_inBounds nofun
  · rename_i r hr
    rw [if_pos (mapInBounds_iff.1 h1 a r hr)]
    exact Res.inBounds_ok _ (hook_mapInBounds (s := s1.writeData _) _ h1)

theorem memWrite_inBounds {a : Word} {v : Byte} {g : Tag} {s : State} (h : mapInBounds s.map = true) :
    (memWrite a v g s).InBounds := by
  have h1 := hook_mapInBounds (s := (s.writeAddress a).writeData v) (.writing a v) h
  unfold memWrite
  dsimp only
  generalize ((s.writeAddress a).writeData v).hook (.writing a v) = s1 at h1
  split
  · exact configFault_inBounds nofun
  · rename_i r hr
    split
    · exact configFault_inBounds nofun
    · rw [if_pos (mapInBounds_iff.1 h1 a r hr)]
      exact Res.inBounds_ok _ (hook_mapInBounds (s := s1.writeMem _ v) _ h1)

theorem ioRead_inBounds {p : Byte} {s : State} (h : mapInBounds s.map = true) : (ioRead p s).InBounds := by
  have h1 := hook_mapInBounds (s := s.writeAddress (zeroExt p)) (.portReading p) h
  unfold ioRead
  dsimp only
  generalize (s.writeAddress (zeroExt p)).hook (.portReading p) = s1 at h1
  exact Res.inBounds_ok _ (hook_mapInBounds (s := s1.dropAnswer.writeData _) _ h1)

theorem ioWrite_inBounds {p v : Byte} {s : State} (h : mapInBounds s.map = true) : (ioWrite p v s).InBounds := by
  have h1 := hook_mapInBounds (s := (s.writeAddress (zeroExt p)).writeData v) (.portWriting p v) h
  unfold ioWrite
  dsimp only
  exact Res.inBounds_ok _ (hook_mapInBounds _ h1)

/-! ## Raised lines stay raised (10 R44) -/

theorem State.keepsRaised_refl (s : State) : s.keepsRaised s := ⟨id, id⟩

theorem State.keepsRaised_trans {s t u : State} (h : s.keepsRaised t) (k : t.keepsRaised u) : s.keepsRaised u :=
  ⟨k.1 ∘ h.1, k.2 ∘ h.2⟩

theorem apply_keepsRaised (s : State) (m : EnvMove) : s.keepsRaised (s.apply m) := by
  cases m with
  | raiseReset => exact ⟨fun _ => rfl, id⟩
  | raiseNmi => exact ⟨id, fun _ => rfl⟩
  | _ => exact ⟨id, id⟩

theorem applyAll_keepsRaised (moves : List EnvMove) (s : State) : s.keepsRaised (s.applyAll moves) := by
  induction moves generalizing s with
  | nil => exact s.keepsRaised_refl
  | cons m rest ih => exact State.keepsRaised_trans (apply_keepsRaised s m) (ih _)

/-- A bus hook lowers neither `RESET` nor `NMI`. -/
theorem hook_keepsRaised (s : State) (e : Event) : s.keepsRaised (s.hook e) := by
  unfold State.hook
  split
  · exact ⟨id, id⟩
  · exact applyAll_keepsRaised _ ((s.emit e).writeHooks _)

/-- The end of a transaction: its last hook and its trace record. -/
theorem hook_record_keepsRaised {s u : State} (h : s.keepsRaised u) (e : Event) (x : Transaction) :
    s.keepsRaised ((u.hook e).record x) :=
  have k := State.keepsRaised_trans h (hook_keepsRaised u e)
  ⟨fun hr => k.1 hr, fun hn => k.2 hn⟩

theorem memRead_keepsRaised {a : Word} {g : Tag} {s t : State} {v : Byte} (h : memRead a g s = .ok v t) :
    s.keepsRaised t := by
  have h1 : s.keepsRaised _ := hook_keepsRaised (s.writeAddress a) (.reading a)
  unfold memRead at h
  dsimp only at h
  generalize (s.writeAddress a).hook (.reading a) = s1 at h h1
  split at h
  · cases h
  · split at h
    · cases h
      refine hook_record_keepsRaised ?_ _ _
      exact ⟨h1.1, h1.2⟩
    · cases h

theorem memWrite_keepsRaised {a : Word} {v : Byte} {g : Tag} {s t : State} (h : memWrite a v g s = .ok () t) :
    s.keepsRaised t := by
  have h1 : s.keepsRaised _ := hook_keepsRaised ((s.writeAddress a).writeData v) (.writing a v)
  unfold memWrite at h
  dsimp only at h
  generalize ((s.writeAddress a).writeData v).hook (.writing a v) = s1 at h h1
  split at h
  · cases h
  · split at h
    · cases h
    · split at h
      · cases h
        refine hook_record_keepsRaised ?_ _ _
        exact ⟨h1.1, h1.2⟩
      · cases h

theorem ioRead_keepsRaised {p : Byte} {s t : State} {v : Byte} (h : ioRead p s = .ok v t) : s.keepsRaised t := by
  have h1 : s.keepsRaised _ := hook_keepsRaised (s.writeAddress (zeroExt p)) (.portReading p)
  unfold ioRead at h
  dsimp only at h
  generalize (s.writeAddress (zeroExt p)).hook (.portReading p) = s1 at h h1
  cases h
  refine hook_record_keepsRaised ?_ _ _
  exact ⟨h1.1, h1.2⟩

theorem ioWrite_keepsRaised {p v : Byte} {s t : State} (h : ioWrite p v s = .ok () t) : s.keepsRaised t := by
  have h1 : s.keepsRaised _ := hook_keepsRaised ((s.writeAddress (zeroExt p)).writeData v) (.portWriting p v)
  unfold ioWrite at h
  dsimp only at h
  cases h
  refine hook_record_keepsRaised ?_ _ _
  exact ⟨h1.1, h1.2⟩

end Sys2Proof.Machine
end

