-- ==== Sys2Proof/Laws/Forms.lean ====
section
/-! SUPPORT. What `exec` does with a form, said once for the family: it is the family's shared operation, with the cost
of the form. A proof over a family cites these and never unfolds `exec`. -/

namespace Sys2Proof.Machine

theorem exec_load8 (r : Reg8) (l : Loc) (s : State) : exec (Form.load8 r l) s = load8 r l (cost8 4 7 19 l) s := by
  cases l with
  | reg r' => cases r <;> cases r' <;> rfl
  | _ => cases r <;> rfl

theorem exec_storeHL (r : Reg8) (s : State) : exec (Form.storeHL r) s = store8 .atHL r 7 s := by
  cases r <;> rfl

theorem exec_storeIX (r : Reg8) (d : Byte) (s : State) : exec (Form.storeIX d r) s = store8 (.atIX d) r 19 s := by
  cases r <;> rfl

theorem exec_loadImm (l : Loc) (n : Byte) (s : State) :
    exec (Form.loadImm n l) s = loadImm l n (cost8 7 10 22 l) s := by
  cases l with
  | reg r => cases r <;> rfl
  | _ => rfl

theorem exec_loadPair (r : Reg16) (nn : Word) (s : State) :
    exec (Form.loadPair nn r) s = loadPair r nn (cost16 10 14 r) s := by
  cases r <;> rfl

theorem exec_loadMem16 (x : HLX) (nn : Word) (s : State) :
    exec (Form.loadMem16 nn x) s = loadMem16 x nn (costHLX 16 20 x) s := by
  cases x <;> rfl

theorem exec_storeMem16 (x : HLX) (nn : Word) (s : State) :
    exec (Form.storeMem16 nn x) s = storeMem16 x nn (costHLX 16 20 x) s := by
  cases x <;> rfl

theorem exec_loadSP (x : HLX) (s : State) : exec (Form.loadSP x) s = loadSP x (costHLX 6 10 x) s := by
  cases x <;> rfl

theorem exec_push (r : StackReg) (s : State) : exec (Form.push r) s = pushReg r (costStack 11 15 r) s := by
  cases r <;> rfl

theorem exec_pop (r : StackReg) (s : State) : exec (Form.pop r) s = popReg r (costStack 10 14 r) s := by
  cases r <;> rfl

theorem exec_alu {op : AluOp} {src : AluSrc} {i : Instr} (h : Form.alu op src = some i) (s : State) :
    exec i s = alu op src (costAlu src) s := by
  cases src with
  | imm n => cases op <;> cases h <;> rfl
  | loc l =>
    cases l with
    | reg r => cases op <;> cases r <;> cases h <;> rfl
    | _ => cases op <;> cases h <;> rfl

theorem exec_inc8 (l : Loc) (s : State) : exec (Form.inc8 l) s = inc8 l (cost8 4 11 23 l) s := by
  cases l with
  | reg r => cases r <;> rfl
  | _ => rfl

theorem exec_dec8 (l : Loc) (s : State) : exec (Form.dec8 l) s = dec8 l (cost8 4 11 23 l) s := by
  cases l with
  | reg r => cases r <;> rfl
  | _ => rfl

theorem exec_inc16 (r : Reg16) (s : State) : exec (Form.inc16 r) s = inc16 r (cost16 6 10 r) s := by
  cases r <;> rfl

theorem exec_dec16 (r : Reg16) (s : State) : exec (Form.dec16 r) s = dec16 r (cost16 6 10 r) s := by
  cases r <;> rfl

theorem exec_add16 (x : HLX) (p : Pair) (s : State) : exec (Form.add16 x p) s = add16 x p (costHLX 11 15 x) s := by
  cases x <;> cases p <;> rfl

theorem exec_rot (op : RotOp) (l : Loc) (s : State) : exec (Form.rot op l) s = rot op l (cost8 8 15 27 l) s := by
  cases l with
  | reg r => cases op <;> cases r <;> rfl
  | _ => cases op <;> rfl

theorem exec_bit (y : Oct) (l : Loc) (s : State) : exec (Form.bit y l) s = bitTest y l (cost8 8 12 24 l) s := by
  cases l with
  | reg r => cases y <;> cases r <;> rfl
  | _ => cases y <;> rfl

theorem exec_res (y : Oct) (l : Loc) (s : State) : exec (Form.res y l) s = bitReset y l (cost8 8 15 27 l) s := by
  cases l with
  | reg r => cases y <;> cases r <;> rfl
  | _ => cases y <;> rfl

theorem exec_set (y : Oct) (l : Loc) (s : State) : exec (Form.set y l) s = bitSet y l (cost8 8 15 27 l) s := by
  cases l with
  | reg r => cases y <;> cases r <;> rfl
  | _ => cases y <;> rfl

theorem exec_jumpCond (cc : Cond) (nn : Word) (s : State) :
    exec (Form.jumpCond nn cc) s = jumpCond cc nn 10 s := by
  cases cc <;> rfl

theorem exec_jumpReg (x : HLX) (s : State) : exec (Form.jumpReg x) s = jumpReg x (costHLX 4 8 x) s := by
  cases x <;> rfl

theorem exec_jumpRelCond (cc : RelCond) (d : Byte) (s : State) :
    exec (Form.jumpRelCond d cc) s = jumpRelCond cc d 7 12 s := by
  cases cc <;> rfl

theorem exec_callCond (cc : Cond) (nn : Word) (s : State) :
    exec (Form.callCond nn cc) s = callCond cc nn 10 17 s := by
  cases cc <;> rfl

theorem exec_retCond (cc : Cond) (s : State) : exec (Form.retCond cc) s = retCond cc 5 11 s := by
  cases cc <;> rfl

theorem exec_restart (y : Oct) (s : State) : exec (Form.restart y) s = restart y 11 s := by
  cases y <;> rfl

theorem exec_intMode (m : IntMode) (s : State) : exec (Form.intMode m) s = setMode m 4 s := by
  cases m <;> rfl

/-! What the shared operations answer on the REF bus. -/

theorem load8_ref {s : State} (h : s.onRefBus) (r : Reg8) (l : Loc) (n : Nat) :
    load8 r l n s = .next (((s.afterRead8 l).write8 r (s.value8 l)).addCycles n) := by
  rw [load8, readLoc_ref h]; rfl

theorem store8_ref {s : State} (h : s.onRefBus) (r : Reg8) (l : Loc) (n : Nat) :
    store8 l r n s = .next ((s.afterWrite8 l (s.read8 r)).addCycles n) := by
  rw [store8, writeLoc_ref h]; rfl

theorem loadImm_ref {s : State} (h : s.onRefBus) (l : Loc) (v : Byte) (n : Nat) :
    loadImm l v n s = .next ((s.afterWrite8 l v).addCycles n) := by
  rw [loadImm, writeLoc_ref h]; rfl

theorem ref_afterRead8 {s : State} (h : s.onRefBus) (l : Loc) : (s.afterRead8 l).onRefBus := by
  cases l <;> exact h

theorem ref_afterWrite8 {s : State} (h : s.onRefBus) (l : Loc) (v : Byte) : (s.afterWrite8 l v).onRefBus := by
  cases l with
  | reg r => cases r <;> exact h
  | _ => exact h

theorem readSrc_ref {s : State} (h : s.onRefBus) (src : AluSrc) :
    readSrc src s = .ok (s.valueSrc src) (s.afterSrc src) := by
  cases src with
  | loc l => exact readLoc_ref h l
  | imm n => rfl

theorem alu_ref {s : State} (h : s.onRefBus) (op : AluOp) (src : AluSrc) (n : Nat) :
    alu op src n s = .next ((((s.afterSrc src).writeA (aluResult op s.readF s.readA (s.valueSrc src)).1).writeF
      (aluResult op s.readF s.readA (s.valueSrc src)).2).addCycles n) := by
  have ha : (s.afterSrc src).af = s.af := by cases src with
    | loc l => exact State.afterRead8_af s l
    | imm n => rfl
  rw [alu, readSrc_ref h, Res.bind_ok]
  simp only [State.readF, State.readA, ha, Res.finish_ok]

theorem inc8_ref {s : State} (h : s.onRefBus) (l : Loc) (n : Nat) :
    inc8 l n s = .next ((((s.afterRead8 l).afterWrite8 l (incFlags s.readF (s.value8 l)).1).writeF
      (incFlags s.readF (s.value8 l)).2).addCycles n) := by
  rw [inc8, readLoc_ref h, Res.bind_ok]
  simp only [writeLoc_ref (ref_afterRead8 h l), Res.bind_ok, Res.finish_ok, State.readF, State.afterRead8_af]

theorem dec8_ref {s : State} (h : s.onRefBus) (l : Loc) (n : Nat) :
    dec8 l n s = .next ((((s.afterRead8 l).afterWrite8 l (decFlags s.readF (s.value8 l)).1).writeF
      (decFlags s.readF (s.value8 l)).2).addCycles n) := by
  rw [dec8, readLoc_ref h, Res.bind_ok]
  simp only [writeLoc_ref (ref_afterRead8 h l), Res.bind_ok, Res.finish_ok, State.readF, State.afterRead8_af]

theorem rot_ref {s : State} (h : s.onRefBus) (op : RotOp) (l : Loc) (n : Nat) :
    rot op l n s = .next ((((s.afterRead8 l).afterWrite8 l (rotate op (flag s.readF maskC) (s.value8 l)).1).writeF
      (shiftFlags s.readF (rotate op (flag s.readF maskC) (s.value8 l)).1
        (rotate op (flag s.readF maskC) (s.value8 l)).2)).addCycles n) := by
  rw [rot, readLoc_ref h, Res.bind_ok]
  simp only [writeLoc_ref (ref_afterRead8 h l), Res.bind_ok, Res.finish_ok, State.readF, State.afterRead8_af]

theorem bitTest_ref {s : State} (h : s.onRefBus) (y : Oct) (l : Loc) (n : Nat) :
    bitTest y l n s = .next (((s.afterRead8 l).writeF (bitTestFlags s.readF (s.value8 l) y)).addCycles n) := by
  rw [bitTest, readLoc_ref h, Res.bind_ok]
  simp only [Res.finish_ok, State.readF, State.afterRead8_af]

theorem bitReset_ref {s : State} (h : s.onRefBus) (y : Oct) (l : Loc) (n : Nat) :
    bitReset y l n s = .next (((s.afterRead8 l).afterWrite8 l (resetBit (s.value8 l) y)).addCycles n) := by
  rw [bitReset, readLoc_ref h, Res.bind_ok, writeLoc_ref (ref_afterRead8 h l), Res.finish_ok]

theorem bitSet_ref {s : State} (h : s.onRefBus) (y : Oct) (l : Loc) (n : Nat) :
    bitSet y l n s = .next (((s.afterRead8 l).afterWrite8 l (setBit (s.value8 l) y)).addCycles n) := by
  rw [bitSet, readLoc_ref h, Res.bind_ok, writeLoc_ref (ref_afterRead8 h l), Res.finish_ok]

theorem pushReg_ref {s : State} (h : s.onRefBus) (r : StackReg) (n : Nat) :
    pushReg r n s = .next ((s.afterPush (s.readStackReg r)).addCycles n) := by
  rw [pushReg, push16_ref h, Res.finish_ok]

theorem popReg_ref {s : State} (h : s.onRefBus) (r : StackReg) (n : Nat) :
    popReg r n s = .next ((s.afterPop.writeStackReg r s.stackTop).addCycles n) := by
  rw [popReg, pop16_ref h, Res.bind_ok, Res.finish_ok]

theorem pushAndGo_ref {s : State} (h : s.onRefBus) (w : Word) :
    pushAndGo w s = .ok () ((s.afterPush s.pc).writePC w) := by
  rw [pushAndGo, push16_ref h, Res.bind_ok]

theorem returnPC_ref {s : State} (h : s.onRefBus) : returnPC s = .ok () (s.afterPop.writePC s.stackTop) := by
  rw [returnPC, pop16_ref h, Res.bind_ok]

end Sys2Proof.Machine
end

