-- ==== Sys2Proof/Laws/Faults.lean ====
section
/-! SUPPORT. How an operation can fail, on any bus: only with `ConfigurationError`, which leaves a faulted state with
`cycles` untouched (60 R372); and the stack's bytes after a push (20 R71). -/

namespace Sys2Proof.Machine

/-- A fault of the operation is a `ConfigurationError` that leaves a faulted state with `cycles = n`. -/
def Res.failsCleanly {α : Type} (r : Res α) (n : Nat) : Prop :=
  ∀ f, r = .fault f →
    ∃ left kind a, f = .configurationError left kind a ∧ left.faulted = true ∧ left.cycles = n

/-- An operation that fails cleanly, and answers states with `cycles = n`. -/
structure Res.Clean {α : Type} (r : Res α) (n : Nat) : Prop where
  fails : r.failsCleanly n
  keeps : ∀ a t, r = .ok a t → t.cycles = n

theorem Res.clean_ok {α : Type} {n : Nat} {s : State} (a : α) (h : s.cycles = n) : (Res.ok a s).Clean n where
  fails f e := by cases e
  keeps b t e := by cases e; exact h

theorem Res.clean_bind {α β : Type} {r : Res α} {k : α → State → Res β} {n : Nat} (h : r.Clean n)
    (hk : ∀ a t, t.cycles = n → (k a t).Clean n) : (r.bind k).Clean n := by
  cases r with
  | ok a t => exact hk a t (h.keeps _ _ rfl)
  | fault f => exact ⟨fun g e => h.fails g (by cases e; rfl), fun a t e => by cases e⟩

/-- What a clean operation makes of an instruction that ends with it. -/
theorem Res.finish_fault_clean {r : Res Unit} {n c : Nat} {f : Fault} (h : r.Clean n) (e : r.finish c = .fault f) :
    ∃ left kind a, f = .configurationError left kind a ∧ left.faulted = true ∧ left.cycles = n := by
  cases r with
  | ok a t => cases e
  | fault g => cases e; exact h.fails _ rfl

theorem configFault_clean {α : Type} {kind : ConfigKind} {a : Word} {s : State} {n : Nat} (h : s.cycles = n) :
    (configFault kind a s : Res α).Clean n where
  fails f e := by cases e; exact ⟨_, _, _, rfl, rfl, h⟩
  keeps b t e := by cases e

theorem memRead_clean {a : Word} {g : Tag} {s : State} {n : Nat} (h : s.cycles = n) : (memRead a g s).Clean n := by
  have hc : ((s.writeAddress a).hook (.reading a)).cycles = n :=
    (hook_sameBlock (s.writeAddress a) (.reading a)).cycles.trans h
  refine ⟨?_, fun v t e => (memRead_sameBlock e).cycles.trans h⟩
  unfold memRead
  dsimp only []
  split
  · exact (configFault_clean hc).fails
  · split
    · exact fun f e => by cases e
    · exact (configFault_clean hc).fails

theorem memWrite_clean {a : Word} {v : Byte} {g : Tag} {s : State} {n : Nat} (h : s.cycles = n) :
    (memWrite a v g s).Clean n := by
  have hc : (((s.writeAddress a).writeData v).hook (.writing a v)).cycles = n :=
    (hook_sameBlock ((s.writeAddress a).writeData v) (.writing a v)).cycles.trans h
  refine ⟨?_, fun u t e => (memWrite_sameBlock e).cycles.trans h⟩
  unfold memWrite
  dsimp only []
  split
  · exact (configFault_clean hc).fails
  · split
    · exact (configFault_clean hc).fails
    · split
      · exact fun f e => by cases e
      · exact (configFault_clean hc).fails

theorem readLoc_clean {l : Loc} {s : State} {n : Nat} (h : s.cycles = n) : (readLoc l s).Clean n := by
  cases l with
  | reg r => exact Res.clean_ok _ h
  | atHL => exact memRead_clean h
  | atIX d => exact memRead_clean ((State.writeLatch_cycles s _).trans h)

theorem writeLoc_clean {l : Loc} {v : Byte} {s : State} {n : Nat} (h : s.cycles = n) : (writeLoc l v s).Clean n := by
  cases l with
  | reg r => exact Res.clean_ok _ ((State.write8_cycles s r v).trans h)
  | atHL => exact memWrite_clean h
  | atIX d => exact memWrite_clean ((State.writeLatch_cycles s _).trans h)

theorem readSrc_clean {src : AluSrc} {s : State} {n : Nat} (h : s.cycles = n) : (readSrc src s).Clean n := by
  cases src with
  | loc l => exact readLoc_clean h
  | imm v => exact Res.clean_ok _ h

theorem memRead16_clean {a : Word} {g : Tag} {s : State} {n : Nat} (h : s.cycles = n) : (memRead16 a g s).Clean n :=
  Res.clean_bind (memRead_clean h) fun _ _ h1 => Res.clean_bind (memRead_clean h1) fun _ _ h2 => Res.clean_ok _ h2

theorem memWrite16_clean {a w : Word} {g : Tag} {s : State} {n : Nat} (h : s.cycles = n) :
    (memWrite16 a w g s).Clean n :=
  Res.clean_bind (memWrite_clean h) fun _ _ h1 => memWrite_clean h1

theorem push16_clean {w : Word} {s : State} {n : Nat} (h : s.cycles = n) : (push16 w s).Clean n := by
  unfold push16
  exact Res.clean_bind (memWrite_clean ((State.writeSP_cycles s _).trans h)) fun _ t h1 =>
    memWrite_clean ((State.writeSP_cycles t _).trans h1)

theorem pop16_clean {s : State} {n : Nat} (h : s.cycles = n) : (pop16 s).Clean n := by
  unfold pop16
  exact Res.clean_bind (memRead_clean h) fun _ t h1 =>
    Res.clean_bind (memRead_clean ((State.writeSP_cycles t _).trans h1)) fun _ u h2 =>
      Res.clean_ok _ ((State.writeSP_cycles u _).trans h2)

theorem pushAndGo_clean {w : Word} {s : State} {n : Nat} (h : s.cycles = n) : (pushAndGo w s).Clean n :=
  Res.clean_bind (push16_clean h) fun _ t h1 => Res.clean_ok _ ((State.writePC_cycles t _).trans h1)

theorem returnPC_clean {s : State} {n : Nat} (h : s.cycles = n) : (returnPC s).Clean n :=
  Res.clean_bind (pop16_clean h) fun _ t h1 => Res.clean_ok _ ((State.writePC_cycles t _).trans h1)

theorem fetchByte_clean {g : Tag} {s : State} {n : Nat} (h : s.cycles = n) : (fetchByte g s).Clean n :=
  Res.clean_bind (memRead_clean h) fun _ t h1 => Res.clean_ok _ ((State.writePC_cycles t _).trans h1)

/-! ## The stack after a push -/

theorem add_max (w : Word) : w + 0xFFFF = w - 1 := by
  rw [BitVec.sub_eq_add_neg]; congr 1

theorem add_max_sub_one (w : Word) : w + 0xFFFE = w - 2 := by
  rw [BitVec.sub_eq_add_neg]; congr 1

theorem sub_one_ne_sub_two (w : Word) : w - 1 ≠ w - 2 := by
  bv_omega

theorem afterPush_sp (s : State) (w : Word) : (s.afterPush w).sp = s.sp - 2 := by
  simp only [State.afterPush, State.afterWrite_sp, State.writeSP_sp, add_max_sub_one]

/-- The bytes memory holds after a push: the two below `SP`, high byte above; every other byte is unchanged. -/
theorem byteAt_afterPush (s : State) (w b : Word) : (s.afterPush w).byteAt b =
    if b = s.sp - 2 then loByte w else if b = s.sp - 1 then hiByte w else s.byteAt b := by
  unfold State.afterPush
  rw [byteAt_afterWrite, byteAt_writeSP, byteAt_afterWrite, byteAt_writeSP, add_max, add_max_sub_one]

theorem trace_afterPush (s : State) (w : Word) : (s.afterPush w).trace =
    s.trace ++ [⟨.mem, .write, s.sp - 1, hiByte w, .data⟩, ⟨.mem, .write, s.sp - 2, loByte w, .data⟩] := by
  rw [← add_max, ← add_max_sub_one]
  unfold State.afterPush
  generalize s.sp + 0xFFFF = p
  generalize s.sp + 0xFFFE = q
  exact List.append_assoc _ _ _

@[simp] theorem byteAt_afterPop (s : State) (b : Word) : s.afterPop.byteAt b = s.byteAt b := by
  simp only [State.afterPop, byteAt_writeSP, byteAt_afterRead]

theorem afterPop_sp (s : State) : s.afterPop.sp = s.sp + 2 := by
  simp only [State.afterPop, State.writeSP_sp]

/-- A word is the concatenation of some two bytes. -/
theorem exists_joinBytes (w : Word) : ∃ h l, w = joinBytes h l := ⟨_, _, (joinBytes_hi_lo w).symm⟩

end Sys2Proof.Machine
end

