-- ==== Sys2Proof/Laws/PerInstr.lean ====
section
/-! SUPPORT. The family of statements made for each instruction: how long its encoding is (30 R103: "An instruction is 1
to 4 bytes"). -/

namespace Sys2Proof.Laws.EncodeLength

/-- The encoding of the instruction is 1 to 4 bytes long. -/
def Statement (i : Instr) : Prop := 1 ≤ (encode i).length ∧ (encode i).length ≤ 4

theorem ldBC_nn (nn : Word) : Statement (.ldBC_nn nn) := ⟨Nat.le_add_left 1 _, Nat.le_of_ble_eq_true rfl⟩
theorem ldB_n (n : Byte) : Statement (.ldB_n n) := ⟨Nat.le_add_left 1 _, Nat.le_of_ble_eq_true rfl⟩
theorem ldC_n (n : Byte) : Statement (.ldC_n n) := ⟨Nat.le_add_left 1 _, Nat.le_of_ble_eq_true rfl⟩
theorem djnz (d : Byte) : Statement (.djnz d) := ⟨Nat.le_add_left 1 _, Nat.le_of_ble_eq_true rfl⟩
theorem ldDE_nn (nn : Word) : Statement (.ldDE_nn nn) := ⟨Nat.le_add_left 1 _, Nat.le_of_ble_eq_true rfl⟩
theorem ldD_n (n : Byte) : Statement (.ldD_n n) := ⟨Nat.le_add_left 1 _, Nat.le_of_ble_eq_true rfl⟩
theorem jr (d : Byte) : Statement (.jr d) := ⟨Nat.le_add_left 1 _, Nat.le_of_ble_eq_true rfl⟩
theorem ldE_n (n : Byte) : Statement (.ldE_n n) := ⟨Nat.le_add_left 1 _, Nat.le_of_ble_eq_true rfl⟩
theorem jrNZ (d : Byte) : Statement (.jrNZ d) := ⟨Nat.le_add_left 1 _, Nat.le_of_ble_eq_true rfl⟩
theorem ldHL_nn (nn : Word) : Statement (.ldHL_nn nn) := ⟨Nat.le_add_left 1 _, Nat.le_of_ble_eq_true rfl⟩
theorem ldMem_HL (nn : Word) : Statement (.ldMem_HL nn) := ⟨Nat.le_add_left 1 _, Nat.le_of_ble_eq_true rfl⟩
theorem ldH_n (n : Byte) : Statement (.ldH_n n) := ⟨Nat.le_add_left 1 _, Nat.le_of_ble_eq_true rfl⟩
theorem jrZ (d : Byte) : Statement (.jrZ d) := ⟨Nat.le_add_left 1 _, Nat.le_of_ble_eq_true rfl⟩
theorem ldHL_mem (nn : Word) : Statement (.ldHL_mem nn) := ⟨Nat.le_add_left 1 _, Nat.le_of_ble_eq_true rfl⟩
theorem ldL_n (n : Byte) : Statement (.ldL_n n) := ⟨Nat.le_add_left 1 _, Nat.le_of_ble_eq_true rfl⟩
theorem jrNC (d : Byte) : Statement (.jrNC d) := ⟨Nat.le_add_left 1 _, Nat.le_of_ble_eq_true rfl⟩
theorem ldSP_nn (nn : Word) : Statement (.ldSP_nn nn) := ⟨Nat.le_add_left 1 _, Nat.le_of_ble_eq_true rfl⟩
theorem ldMem_A (nn : Word) : Statement (.ldMem_A nn) := ⟨Nat.le_add_left 1 _, Nat.le_of_ble_eq_true rfl⟩
theorem ldAtHL_n (n : Byte) : Statement (.ldAtHL_n n) := ⟨Nat.le_add_left 1 _, Nat.le_of_ble_eq_true rfl⟩
theorem jrC (d : Byte) : Statement (.jrC d) := ⟨Nat.le_add_left 1 _, Nat.le_of_ble_eq_true rfl⟩
theorem ldA_mem (nn : Word) : Statement (.ldA_mem nn) := ⟨Nat.le_add_left 1 _, Nat.le_of_ble_eq_true rfl⟩
theorem ldA_n (n : Byte) : Statement (.ldA_n n) := ⟨Nat.le_add_left 1 _, Nat.le_of_ble_eq_true rfl⟩
theorem addA_n (n : Byte) : Statement (.addA_n n) := ⟨Nat.le_add_left 1 _, Nat.le_of_ble_eq_true rfl⟩
theorem adcA_n (n : Byte) : Statement (.adcA_n n) := ⟨Nat.le_add_left 1 _, Nat.le_of_ble_eq_true rfl⟩
theorem subA_n (n : Byte) : Statement (.subA_n n) := ⟨Nat.le_add_left 1 _, Nat.le_of_ble_eq_true rfl⟩
theorem sbcA_n (n : Byte) : Statement (.sbcA_n n) := ⟨Nat.le_add_left 1 _, Nat.le_of_ble_eq_true rfl⟩
theorem andA_n (n : Byte) : Statement (.andA_n n) := ⟨Nat.le_add_left 1 _, Nat.le_of_ble_eq_true rfl⟩
theorem xorA_n (n : Byte) : Statement (.xorA_n n) := ⟨Nat.le_add_left 1 _, Nat.le_of_ble_eq_true rfl⟩
theorem orA_n (n : Byte) : Statement (.orA_n n) := ⟨Nat.le_add_left 1 _, Nat.le_of_ble_eq_true rfl⟩
theorem cpA_n (n : Byte) : Statement (.cpA_n n) := ⟨Nat.le_add_left 1 _, Nat.le_of_ble_eq_true rfl⟩
theorem jpNZ (nn : Word) : Statement (.jpNZ nn) := ⟨Nat.le_add_left 1 _, Nat.le_of_ble_eq_true rfl⟩
theorem jp (nn : Word) : Statement (.jp nn) := ⟨Nat.le_add_left 1 _, Nat.le_of_ble_eq_true rfl⟩
theorem callNZ (nn : Word) : Statement (.callNZ nn) := ⟨Nat.le_add_left 1 _, Nat.le_of_ble_eq_true rfl⟩
theorem jpZ (nn : Word) : Statement (.jpZ nn) := ⟨Nat.le_add_left 1 _, Nat.le_of_ble_eq_true rfl⟩
theorem callZ (nn : Word) : Statement (.callZ nn) := ⟨Nat.le_add_left 1 _, Nat.le_of_ble_eq_true rfl⟩
theorem call (nn : Word) : Statement (.call nn) := ⟨Nat.le_add_left 1 _, Nat.le_of_ble_eq_true rfl⟩
theorem jpNC (nn : Word) : Statement (.jpNC nn) := ⟨Nat.le_add_left 1 _, Nat.le_of_ble_eq_true rfl⟩
theorem outPort_A (n : Byte) : Statement (.outPort_A n) := ⟨Nat.le_add_left 1 _, Nat.le_of_ble_eq_true rfl⟩
theorem callNC (nn : Word) : Statement (.callNC nn) := ⟨Nat.le_add_left 1 _, Nat.le_of_ble_eq_true rfl⟩
theorem jpC (nn : Word) : Statement (.jpC nn) := ⟨Nat.le_add_left 1 _, Nat.le_of_ble_eq_true rfl⟩
theorem inA_port (n : Byte) : Statement (.inA_port n) := ⟨Nat.le_add_left 1 _, Nat.le_of_ble_eq_true rfl⟩
theorem callC (nn : Word) : Statement (.callC nn) := ⟨Nat.le_add_left 1 _, Nat.le_of_ble_eq_true rfl⟩
theorem jpPO (nn : Word) : Statement (.jpPO nn) := ⟨Nat.le_add_left 1 _, Nat.le_of_ble_eq_true rfl⟩
theorem callPO (nn : Word) : Statement (.callPO nn) := ⟨Nat.le_add_left 1 _, Nat.le_of_ble_eq_true rfl⟩
theorem jpPE (nn : Word) : Statement (.jpPE nn) := ⟨Nat.le_add_left 1 _, Nat.le_of_ble_eq_true rfl⟩
theorem callPE (nn : Word) : Statement (.callPE nn) := ⟨Nat.le_add_left 1 _, Nat.le_of_ble_eq_true rfl⟩
theorem jpP (nn : Word) : Statement (.jpP nn) := ⟨Nat.le_add_left 1 _, Nat.le_of_ble_eq_true rfl⟩
theorem callP (nn : Word) : Statement (.callP nn) := ⟨Nat.le_add_left 1 _, Nat.le_of_ble_eq_true rfl⟩
theorem jpM (nn : Word) : Statement (.jpM nn) := ⟨Nat.le_add_left 1 _, Nat.le_of_ble_eq_true rfl⟩
theorem callM (nn : Word) : Statement (.callM nn) := ⟨Nat.le_add_left 1 _, Nat.le_of_ble_eq_true rfl⟩
theorem ldIX_nn (nn : Word) : Statement (.ldIX_nn nn) := ⟨Nat.le_add_left 1 _, Nat.le_of_ble_eq_true rfl⟩
theorem ldMem_IX (nn : Word) : Statement (.ldMem_IX nn) := ⟨Nat.le_add_left 1 _, Nat.le_of_ble_eq_true rfl⟩
theorem ldIX_mem (nn : Word) : Statement (.ldIX_mem nn) := ⟨Nat.le_add_left 1 _, Nat.le_of_ble_eq_true rfl⟩
theorem incIXd (d : Byte) : Statement (.incIXd d) := ⟨Nat.le_add_left 1 _, Nat.le_of_ble_eq_true rfl⟩
theorem decIXd (d : Byte) : Statement (.decIXd d) := ⟨Nat.le_add_left 1 _, Nat.le_of_ble_eq_true rfl⟩
theorem ldIXd_n (d : Byte) (n : Byte) : Statement (.ldIXd_n d n) := ⟨Nat.le_add_left 1 _, Nat.le_of_ble_eq_true rfl⟩
theorem ldB_IXd (d : Byte) : Statement (.ldB_IXd d) := ⟨Nat.le_add_left 1 _, Nat.le_of_ble_eq_true rfl⟩
theorem ldC_IXd (d : Byte) : Statement (.ldC_IXd d) := ⟨Nat.le_add_left 1 _, Nat.le_of_ble_eq_true rfl⟩
theorem ldD_IXd (d : Byte) : Statement (.ldD_IXd d) := ⟨Nat.le_add_left 1 _, Nat.le_of_ble_eq_true rfl⟩
theorem ldE_IXd (d : Byte) : Statement (.ldE_IXd d) := ⟨Nat.le_add_left 1 _, Nat.le_of_ble_eq_true rfl⟩
theorem ldH_IXd (d : Byte) : Statement (.ldH_IXd d) := ⟨Nat.le_add_left 1 _, Nat.le_of_ble_eq_true rfl⟩
theorem ldL_IXd (d : Byte) : Statement (.ldL_IXd d) := ⟨Nat.le_add_left 1 _, Nat.le_of_ble_eq_true rfl⟩
theorem ldIXd_B (d : Byte) : Statement (.ldIXd_B d) := ⟨Nat.le_add_left 1 _, Nat.le_of_ble_eq_true rfl⟩
theorem ldIXd_C (d : Byte) : Statement (.ldIXd_C d) := ⟨Nat.le_add_left 1 _, Nat.le_of_ble_eq_true rfl⟩
theorem ldIXd_D (d : Byte) : Statement (.ldIXd_D d) := ⟨Nat.le_add_left 1 _, Nat.le_of_ble_eq_true rfl⟩
theorem ldIXd_E (d : Byte) : Statement (.ldIXd_E d) := ⟨Nat.le_add_left 1 _, Nat.le_of_ble_eq_true rfl⟩
theorem ldIXd_H (d : Byte) : Statement (.ldIXd_H d) := ⟨Nat.le_add_left 1 _, Nat.le_of_ble_eq_true rfl⟩
theorem ldIXd_L (d : Byte) : Statement (.ldIXd_L d) := ⟨Nat.le_add_left 1 _, Nat.le_of_ble_eq_true rfl⟩
theorem ldIXd_A (d : Byte) : Statement (.ldIXd_A d) := ⟨Nat.le_add_left 1 _, Nat.le_of_ble_eq_true rfl⟩
theorem ldA_IXd (d : Byte) : Statement (.ldA_IXd d) := ⟨Nat.le_add_left 1 _, Nat.le_of_ble_eq_true rfl⟩
theorem addA_IXd (d : Byte) : Statement (.addA_IXd d) := ⟨Nat.le_add_left 1 _, Nat.le_of_ble_eq_true rfl⟩
theorem adcA_IXd (d : Byte) : Statement (.adcA_IXd d) := ⟨Nat.le_add_left 1 _, Nat.le_of_ble_eq_true rfl⟩
theorem subA_IXd (d : Byte) : Statement (.subA_IXd d) := ⟨Nat.le_add_left 1 _, Nat.le_of_ble_eq_true rfl⟩
theorem sbcA_IXd (d : Byte) : Statement (.sbcA_IXd d) := ⟨Nat.le_add_left 1 _, Nat.le_of_ble_eq_true rfl⟩
theorem andA_IXd (d : Byte) : Statement (.andA_IXd d) := ⟨Nat.le_add_left 1 _, Nat.le_of_ble_eq_true rfl⟩
theorem xorA_IXd (d : Byte) : Statement (.xorA_IXd d) := ⟨Nat.le_add_left 1 _, Nat.le_of_ble_eq_true rfl⟩
theorem orA_IXd (d : Byte) : Statement (.orA_IXd d) := ⟨Nat.le_add_left 1 _, Nat.le_of_ble_eq_true rfl⟩
theorem cpA_IXd (d : Byte) : Statement (.cpA_IXd d) := ⟨Nat.le_add_left 1 _, Nat.le_of_ble_eq_true rfl⟩
theorem rlcIXd (d : Byte) : Statement (.rlcIXd d) := ⟨Nat.le_add_left 1 _, Nat.le_of_ble_eq_true rfl⟩
theorem rrcIXd (d : Byte) : Statement (.rrcIXd d) := ⟨Nat.le_add_left 1 _, Nat.le_of_ble_eq_true rfl⟩
theorem rlIXd (d : Byte) : Statement (.rlIXd d) := ⟨Nat.le_add_left 1 _, Nat.le_of_ble_eq_true rfl⟩
theorem rrIXd (d : Byte) : Statement (.rrIXd d) := ⟨Nat.le_add_left 1 _, Nat.le_of_ble_eq_true rfl⟩
theorem slaIXd (d : Byte) : Statement (.slaIXd d) := ⟨Nat.le_add_left 1 _, Nat.le_of_ble_eq_true rfl⟩
theorem sraIXd (d : Byte) : Statement (.sraIXd d) := ⟨Nat.le_add_left 1 _, Nat.le_of_ble_eq_true rfl⟩
theorem srlIXd (d : Byte) : Statement (.srlIXd d) := ⟨Nat.le_add_left 1 _, Nat.le_of_ble_eq_true rfl⟩
theorem bit0_IXd (d : Byte) : Statement (.bit0_IXd d) := ⟨Nat.le_add_left 1 _, Nat.le_of_ble_eq_true rfl⟩
theorem bit1_IXd (d : Byte) : Statement (.bit1_IXd d) := ⟨Nat.le_add_left 1 _, Nat.le_of_ble_eq_true rfl⟩
theorem bit2_IXd (d : Byte) : Statement (.bit2_IXd d) := ⟨Nat.le_add_left 1 _, Nat.le_of_ble_eq_true rfl⟩
theorem bit3_IXd (d : Byte) : Statement (.bit3_IXd d) := ⟨Nat.le_add_left 1 _, Nat.le_of_ble_eq_true rfl⟩
theorem bit4_IXd (d : Byte) : Statement (.bit4_IXd d) := ⟨Nat.le_add_left 1 _, Nat.le_of_ble_eq_true rfl⟩
theorem bit5_IXd (d : Byte) : Statement (.bit5_IXd d) := ⟨Nat.le_add_left 1 _, Nat.le_of_ble_eq_true rfl⟩
theorem bit6_IXd (d : Byte) : Statement (.bit6_IXd d) := ⟨Nat.le_add_left 1 _, Nat.le_of_ble_eq_true rfl⟩
theorem bit7_IXd (d : Byte) : Statement (.bit7_IXd d) := ⟨Nat.le_add_left 1 _, Nat.le_of_ble_eq_true rfl⟩
theorem res0_IXd (d : Byte) : Statement (.res0_IXd d) := ⟨Nat.le_add_left 1 _, Nat.le_of_ble_eq_true rfl⟩
theorem res1_IXd (d : Byte) : Statement (.res1_IXd d) := ⟨Nat.le_add_left 1 _, Nat.le_of_ble_eq_true rfl⟩
theorem res2_IXd (d : Byte) : Statement (.res2_IXd d) := ⟨Nat.le_add_left 1 _, Nat.le_of_ble_eq_true rfl⟩
theorem res3_IXd (d : Byte) : Statement (.res3_IXd d) := ⟨Nat.le_add_left 1 _, Nat.le_of_ble_eq_true rfl⟩
theorem res4_IXd (d : Byte) : Statement (.res4_IXd d) := ⟨Nat.le_add_left 1 _, Nat.le_of_ble_eq_true rfl⟩
theorem res5_IXd (d : Byte) : Statement (.res5_IXd d) := ⟨Nat.le_add_left 1 _, Nat.le_of_ble_eq_true rfl⟩
theorem res6_IXd (d : Byte) : Statement (.res6_IXd d) := ⟨Nat.le_add_left 1 _, Nat.le_of_ble_eq_true rfl⟩
theorem res7_IXd (d : Byte) : Statement (.res7_IXd d) := ⟨Nat.le_add_left 1 _, Nat.le_of_ble_eq_true rfl⟩
theorem set0_IXd (d : Byte) : Statement (.set0_IXd d) := ⟨Nat.le_add_left 1 _, Nat.le_of_ble_eq_true rfl⟩
theorem set1_IXd (d : Byte) : Statement (.set1_IXd d) := ⟨Nat.le_add_left 1 _, Nat.le_of_ble_eq_true rfl⟩
theorem set2_IXd (d : Byte) : Statement (.set2_IXd d) := ⟨Nat.le_add_left 1 _, Nat.le_of_ble_eq_true rfl⟩
theorem set3_IXd (d : Byte) : Statement (.set3_IXd d) := ⟨Nat.le_add_left 1 _, Nat.le_of_ble_eq_true rfl⟩
theorem set4_IXd (d : Byte) : Statement (.set4_IXd d) := ⟨Nat.le_add_left 1 _, Nat.le_of_ble_eq_true rfl⟩
theorem set5_IXd (d : Byte) : Statement (.set5_IXd d) := ⟨Nat.le_add_left 1 _, Nat.le_of_ble_eq_true rfl⟩
theorem set6_IXd (d : Byte) : Statement (.set6_IXd d) := ⟨Nat.le_add_left 1 _, Nat.le_of_ble_eq_true rfl⟩
theorem set7_IXd (d : Byte) : Statement (.set7_IXd d) := ⟨Nat.le_add_left 1 _, Nat.le_of_ble_eq_true rfl⟩
theorem nop : Statement .nop := ⟨by decide, by decide⟩
theorem ldAtBC_A : Statement .ldAtBC_A := ⟨by decide, by decide⟩
theorem incBC : Statement .incBC := ⟨by decide, by decide⟩
theorem incB : Statement .incB := ⟨by decide, by decide⟩
theorem decB : Statement .decB := ⟨by decide, by decide⟩
theorem exAF : Statement .exAF := ⟨by decide, by decide⟩
theorem addHL_BC : Statement .addHL_BC := ⟨by decide, by decide⟩
theorem ldA_atBC : Statement .ldA_atBC := ⟨by decide, by decide⟩
theorem decBC : Statement .decBC := ⟨by decide, by decide⟩
theorem incC : Statement .incC := ⟨by decide, by decide⟩
theorem decC : Statement .decC := ⟨by decide, by decide⟩
theorem ldAtDE_A : Statement .ldAtDE_A := ⟨by decide, by decide⟩
theorem incDE : Statement .incDE := ⟨by decide, by decide⟩
theorem incD : Statement .incD := ⟨by decide, by decide⟩
theorem decD : Statement .decD := ⟨by decide, by decide⟩
theorem addHL_DE : Statement .addHL_DE := ⟨by decide, by decide⟩
theorem ldA_atDE : Statement .ldA_atDE := ⟨by decide, by decide⟩
theorem decDE : Statement .decDE := ⟨by decide, by decide⟩
theorem incE : Statement .incE := ⟨by decide, by decide⟩
theorem decE : Statement .decE := ⟨by decide, by decide⟩
theorem incHL : Statement .incHL := ⟨by decide, by decide⟩
theorem incH : Statement .incH := ⟨by decide, by decide⟩
theorem decH : Statement .decH := ⟨by decide, by decide⟩
theorem addHL_HL : Statement .addHL_HL := ⟨by decide, by decide⟩
theorem decHL : Statement .decHL := ⟨by decide, by decide⟩
theorem incL : Statement .incL := ⟨by decide, by decide⟩
theorem decL : Statement .decL := ⟨by decide, by decide⟩
theorem cpl : Statement .cpl := ⟨by decide, by decide⟩
theorem incSP : Statement .incSP := ⟨by decide, by decide⟩
theorem incAtHL : Statement .incAtHL := ⟨by decide, by decide⟩
theorem decAtHL : Statement .decAtHL := ⟨by decide, by decide⟩
theorem scf : Statement .scf := ⟨by decide, by decide⟩
theorem addHL_SP : Statement .addHL_SP := ⟨by decide, by decide⟩
theorem decSP : Statement .decSP := ⟨by decide, by decide⟩
theorem incA : Statement .incA := ⟨by decide, by decide⟩
theorem decA : Statement .decA := ⟨by decide, by decide⟩
theorem ccf : Statement .ccf := ⟨by decide, by decide⟩
theorem ldB_B : Statement .ldB_B := ⟨by decide, by decide⟩
theorem ldB_C : Statement .ldB_C := ⟨by decide, by decide⟩
theorem ldB_D : Statement .ldB_D := ⟨by decide, by decide⟩
theorem ldB_E : Statement .ldB_E := ⟨by decide, by decide⟩
theorem ldB_H : Statement .ldB_H := ⟨by decide, by decide⟩
theorem ldB_L : Statement .ldB_L := ⟨by decide, by decide⟩
theorem ldB_atHL : Statement .ldB_atHL := ⟨by decide, by decide⟩
theorem ldB_A : Statement .ldB_A := ⟨by decide, by decide⟩
theorem ldC_B : Statement .ldC_B := ⟨by decide, by decide⟩
theorem ldC_C : Statement .ldC_C := ⟨by decide, by decide⟩
theorem ldC_D : Statement .ldC_D := ⟨by decide, by decide⟩
theorem ldC_E : Statement .ldC_E := ⟨by decide, by decide⟩
theorem ldC_H : Statement .ldC_H := ⟨by decide, by decide⟩
theorem ldC_L : Statement .ldC_L := ⟨by decide, by decide⟩
theorem ldC_atHL : Statement .ldC_atHL := ⟨by decide, by decide⟩
theorem ldC_A : Statement .ldC_A := ⟨by decide, by decide⟩
theorem ldD_B : Statement .ldD_B := ⟨by decide, by decide⟩
theorem ldD_C : Statement .ldD_C := ⟨by decide, by decide⟩
theorem ldD_D : Statement .ldD_D := ⟨by decide, by decide⟩
theorem ldD_E : Statement .ldD_E := ⟨by decide, by decide⟩
theorem ldD_H : Statement .ldD_H := ⟨by decide, by decide⟩
theorem ldD_L : Statement .ldD_L := ⟨by decide, by decide⟩
theorem ldD_atHL : Statement .ldD_atHL := ⟨by decide, by decide⟩
theorem ldD_A : Statement .ldD_A := ⟨by decide, by decide⟩
theorem ldE_B : Statement .ldE_B := ⟨by decide, by decide⟩
theorem ldE_C : Statement .ldE_C := ⟨by decide, by decide⟩
theorem ldE_D : Statement .ldE_D := ⟨by decide, by decide⟩
theorem ldE_E : Statement .ldE_E := ⟨by decide, by decide⟩
theorem ldE_H : Statement .ldE_H := ⟨by decide, by decide⟩
theorem ldE_L : Statement .ldE_L := ⟨by decide, by decide⟩
theorem ldE_atHL : Statement .ldE_atHL := ⟨by decide, by decide⟩
theorem ldE_A : Statement .ldE_A := ⟨by decide, by decide⟩
theorem ldH_B : Statement .ldH_B := ⟨by decide, by decide⟩
theorem ldH_C : Statement .ldH_C := ⟨by decide, by decide⟩
theorem ldH_D : Statement .ldH_D := ⟨by decide, by decide⟩
theorem ldH_E : Statement .ldH_E := ⟨by decide, by decide⟩
theorem ldH_H : Statement .ldH_H := ⟨by decide, by decide⟩
theorem ldH_L : Statement .ldH_L := ⟨by decide, by decide⟩
theorem ldH_atHL : Statement .ldH_atHL := ⟨by decide, by decide⟩
theorem ldH_A : Statement .ldH_A := ⟨by decide, by decide⟩
theorem ldL_B : Statement .ldL_B := ⟨by decide, by decide⟩
theorem ldL_C : Statement .ldL_C := ⟨by decide, by decide⟩
theorem ldL_D : Statement .ldL_D := ⟨by decide, by decide⟩
theorem ldL_E : Statement .ldL_E := ⟨by decide, by decide⟩
theorem ldL_H : Statement .ldL_H := ⟨by decide, by decide⟩
theorem ldL_L : Statement .ldL_L := ⟨by decide, by decide⟩
theorem ldL_atHL : Statement .ldL_atHL := ⟨by decide, by decide⟩
theorem ldL_A : Statement .ldL_A := ⟨by decide, by decide⟩
theorem ldAtHL_B : Statement .ldAtHL_B := ⟨by decide, by decide⟩
theorem ldAtHL_C : Statement .ldAtHL_C := ⟨by decide, by decide⟩
theorem ldAtHL_D : Statement .ldAtHL_D := ⟨by decide, by decide⟩
theorem ldAtHL_E : Statement .ldAtHL_E := ⟨by decide, by decide⟩
theorem ldAtHL_H : Statement .ldAtHL_H := ⟨by decide, by decide⟩
theorem ldAtHL_L : Statement .ldAtHL_L := ⟨by decide, by decide⟩
theorem halt : Statement .halt := ⟨by decide, by decide⟩
theorem ldAtHL_A : Statement .ldAtHL_A := ⟨by decide, by decide⟩
theorem ldA_B : Statement .ldA_B := ⟨by decide, by decide⟩
theorem ldA_C : Statement .ldA_C := ⟨by decide, by decide⟩
theorem ldA_D : Statement .ldA_D := ⟨by decide, by decide⟩
theorem ldA_E : Statement .ldA_E := ⟨by decide, by decide⟩
theorem ldA_H : Statement .ldA_H := ⟨by decide, by decide⟩
theorem ldA_L : Statement .ldA_L := ⟨by decide, by decide⟩
theorem ldA_atHL : Statement .ldA_atHL := ⟨by decide, by decide⟩
theorem ldA_A : Statement .ldA_A := ⟨by decide, by decide⟩
theorem addA_B : Statement .addA_B := ⟨by decide, by decide⟩
theorem addA_D : Statement .addA_D := ⟨by decide, by decide⟩
theorem addA_E : Statement .addA_E := ⟨by decide, by decide⟩
theorem addA_H : Statement .addA_H := ⟨by decide, by decide⟩
theorem addA_L : Statement .addA_L := ⟨by decide, by decide⟩
theorem addA_atHL : Statement .addA_atHL := ⟨by decide, by decide⟩
theorem addA_A : Statement .addA_A := ⟨by decide, by decide⟩
theorem adcA_B : Statement .adcA_B := ⟨by decide, by decide⟩
theorem adcA_D : Statement .adcA_D := ⟨by decide, by decide⟩
theorem adcA_E : Statement .adcA_E := ⟨by decide, by decide⟩
theorem adcA_H : Statement .adcA_H := ⟨by decide, by decide⟩
theorem adcA_L : Statement .adcA_L := ⟨by decide, by decide⟩
theorem adcA_atHL : Statement .adcA_atHL := ⟨by decide, by decide⟩
theorem adcA_A : Statement .adcA_A := ⟨by decide, by decide⟩
theorem subA_B : Statement .subA_B := ⟨by decide, by decide⟩
theorem subA_D : Statement .subA_D := ⟨by decide, by decide⟩
theorem subA_E : Statement .subA_E := ⟨by decide, by decide⟩
theorem subA_H : Statement .subA_H := ⟨by decide, by decide⟩
theorem subA_L : Statement .subA_L := ⟨by decide, by decide⟩
theorem subA_atHL : Statement .subA_atHL := ⟨by decide, by decide⟩
theorem subA_A : Statement .subA_A := ⟨by decide, by decide⟩
theorem sbcA_B : Statement .sbcA_B := ⟨by decide, by decide⟩
theorem sbcA_D : Statement .sbcA_D := ⟨by decide, by decide⟩
theorem sbcA_E : Statement .sbcA_E := ⟨by decide, by decide⟩
theorem sbcA_H : Statement .sbcA_H := ⟨by decide, by decide⟩
theorem sbcA_L : Statement .sbcA_L := ⟨by decide, by decide⟩
theorem sbcA_atHL : Statement .sbcA_atHL := ⟨by decide, by decide⟩
theorem sbcA_A : Statement .sbcA_A := ⟨by decide, by decide⟩
theorem andA_B : Statement .andA_B := ⟨by decide, by decide⟩
theorem andA_D : Statement .andA_D := ⟨by decide, by decide⟩
theorem andA_E : Statement .andA_E := ⟨by decide, by decide⟩
theorem andA_H : Statement .andA_H := ⟨by decide, by decide⟩
theorem andA_L : Statement .andA_L := ⟨by decide, by decide⟩
theorem andA_atHL : Statement .andA_atHL := ⟨by decide, by decide⟩
theorem andA_A : Statement .andA_A := ⟨by decide, by decide⟩
theorem xorA_B : Statement .xorA_B := ⟨by decide, by decide⟩
theorem xorA_D : Statement .xorA_D := ⟨by decide, by decide⟩
theorem xorA_E : Statement .xorA_E := ⟨by decide, by decide⟩
theorem xorA_H : Statement .xorA_H := ⟨by decide, by decide⟩
theorem xorA_L : Statement .xorA_L := ⟨by decide, by decide⟩
theorem xorA_atHL : Statement .xorA_atHL := ⟨by decide, by decide⟩
theorem xorA_A : Statement .xorA_A := ⟨by decide, by decide⟩
theorem orA_B : Statement .orA_B := ⟨by decide, by decide⟩
theorem orA_D : Statement .orA_D := ⟨by decide, by decide⟩
theorem orA_E : Statement .orA_E := ⟨by decide, by decide⟩
theorem orA_H : Statement .orA_H := ⟨by decide, by decide⟩
theorem orA_L : Statement .orA_L := ⟨by decide, by decide⟩
theorem orA_atHL : Statement .orA_atHL := ⟨by decide, by decide⟩
theorem orA_A : Statement .orA_A := ⟨by decide, by decide⟩
theorem cpA_B : Statement .cpA_B := ⟨by decide, by decide⟩
theorem cpA_D : Statement .cpA_D := ⟨by decide, by decide⟩
theorem cpA_E : Statement .cpA_E := ⟨by decide, by decide⟩
theorem cpA_H : Statement .cpA_H := ⟨by decide, by decide⟩
theorem cpA_L : Statement .cpA_L := ⟨by decide, by decide⟩
theorem cpA_atHL : Statement .cpA_atHL := ⟨by decide, by decide⟩
theorem cpA_A : Statement .cpA_A := ⟨by decide, by decide⟩
theorem retNZ : Statement .retNZ := ⟨by decide, by decide⟩
theorem popBC : Statement .popBC := ⟨by decide, by decide⟩
theorem pushBC : Statement .pushBC := ⟨by decide, by decide⟩
theorem im0 : Statement .im0 := ⟨by decide, by decide⟩
theorem rst00 : Statement .rst00 := ⟨by decide, by decide⟩
theorem retZ : Statement .retZ := ⟨by decide, by decide⟩
theorem ret : Statement .ret := ⟨by decide, by decide⟩
theorem bitPrefix : Statement .bitPrefix := ⟨by decide, by decide⟩
theorem im1 : Statement .im1 := ⟨by decide, by decide⟩
theorem rst08 : Statement .rst08 := ⟨by decide, by decide⟩
theorem retNC : Statement .retNC := ⟨by decide, by decide⟩
theorem popDE : Statement .popDE := ⟨by decide, by decide⟩
theorem pushDE : Statement .pushDE := ⟨by decide, by decide⟩
theorem im2 : Statement .im2 := ⟨by decide, by decide⟩
theorem rst10 : Statement .rst10 := ⟨by decide, by decide⟩
theorem retC : Statement .retC := ⟨by decide, by decide⟩
theorem exx : Statement .exx := ⟨by decide, by decide⟩
theorem indexPrefix : Statement .indexPrefix := ⟨by decide, by decide⟩
theorem ldI_A : Statement .ldI_A := ⟨by decide, by decide⟩
theorem rst18 : Statement .rst18 := ⟨by decide, by decide⟩
theorem retPO : Statement .retPO := ⟨by decide, by decide⟩
theorem popHL : Statement .popHL := ⟨by decide, by decide⟩
theorem pushHL : Statement .pushHL := ⟨by decide, by decide⟩
theorem reti : Statement .reti := ⟨by decide, by decide⟩
theorem rst20 : Statement .rst20 := ⟨by decide, by decide⟩
theorem retPE : Statement .retPE := ⟨by decide, by decide⟩
theorem jpHL : Statement .jpHL := ⟨by decide, by decide⟩
theorem rst28 : Statement .rst28 := ⟨by decide, by decide⟩
theorem retP : Statement .retP := ⟨by decide, by decide⟩
theorem popAF : Statement .popAF := ⟨by decide, by decide⟩
theorem di : Statement .di := ⟨by decide, by decide⟩
theorem pushAF : Statement .pushAF := ⟨by decide, by decide⟩
theorem rst30 : Statement .rst30 := ⟨by decide, by decide⟩
theorem retM : Statement .retM := ⟨by decide, by decide⟩
theorem ldSP_HL : Statement .ldSP_HL := ⟨by decide, by decide⟩
theorem ei : Statement .ei := ⟨by decide, by decide⟩
theorem rst38 : Statement .rst38 := ⟨by decide, by decide⟩
theorem rlcB : Statement .rlcB := ⟨by decide, by decide⟩
theorem rlcC : Statement .rlcC := ⟨by decide, by decide⟩
theorem rlcD : Statement .rlcD := ⟨by decide, by decide⟩
theorem rlcE : Statement .rlcE := ⟨by decide, by decide⟩
theorem rlcH : Statement .rlcH := ⟨by decide, by decide⟩
theorem rlcL : Statement .rlcL := ⟨by decide, by decide⟩
theorem rlcAtHL : Statement .rlcAtHL := ⟨by decide, by decide⟩
theorem rlcA : Statement .rlcA := ⟨by decide, by decide⟩
theorem rrcB : Statement .rrcB := ⟨by decide, by decide⟩
theorem rrcC : Statement .rrcC := ⟨by decide, by decide⟩
theorem rrcD : Statement .rrcD := ⟨by decide, by decide⟩
theorem rrcE : Statement .rrcE := ⟨by decide, by decide⟩
theorem rrcH : Statement .rrcH := ⟨by decide, by decide⟩
theorem rrcL : Statement .rrcL := ⟨by decide, by decide⟩
theorem rrcAtHL : Statement .rrcAtHL := ⟨by decide, by decide⟩
theorem rrcA : Statement .rrcA := ⟨by decide, by decide⟩
theorem rlB : Statement .rlB := ⟨by decide, by decide⟩
theorem rlC : Statement .rlC := ⟨by decide, by decide⟩
theorem rlD : Statement .rlD := ⟨by decide, by decide⟩
theorem rlE : Statement .rlE := ⟨by decide, by decide⟩
theorem rlH : Statement .rlH := ⟨by decide, by decide⟩
theorem rlL : Statement .rlL := ⟨by decide, by decide⟩
theorem rlAtHL : Statement .rlAtHL := ⟨by decide, by decide⟩
theorem rlA : Statement .rlA := ⟨by decide, by decide⟩
theorem rrB : Statement .rrB := ⟨by decide, by decide⟩
theorem rrC : Statement .rrC := ⟨by decide, by decide⟩
theorem rrD : Statement .rrD := ⟨by decide, by decide⟩
theorem rrE : Statement .rrE := ⟨by decide, by decide⟩
theorem rrH : Statement .rrH := ⟨by decide, by decide⟩
theorem rrL : Statement .rrL := ⟨by decide, by decide⟩
theorem rrAtHL : Statement .rrAtHL := ⟨by decide, by decide⟩
theorem rrA : Statement .rrA := ⟨by decide, by decide⟩
theorem slaB : Statement .slaB := ⟨by decide, by decide⟩
theorem slaC : Statement .slaC := ⟨by decide, by decide⟩
theorem slaD : Statement .slaD := ⟨by decide, by decide⟩
theorem slaE : Statement .slaE := ⟨by decide, by decide⟩
theorem slaH : Statement .slaH := ⟨by decide, by decide⟩
theorem slaL : Statement .slaL := ⟨by decide, by decide⟩
theorem slaAtHL : Statement .slaAtHL := ⟨by decide, by decide⟩
theorem slaA : Statement .slaA := ⟨by decide, by decide⟩
theorem sraB : Statement .sraB := ⟨by decide, by decide⟩
theorem sraC : Statement .sraC := ⟨by decide, by decide⟩
theorem sraD : Statement .sraD := ⟨by decide, by decide⟩
theorem sraE : Statement .sraE := ⟨by decide, by decide⟩
theorem sraH : Statement .sraH := ⟨by decide, by decide⟩
theorem sraL : Statement .sraL := ⟨by decide, by decide⟩
theorem sraAtHL : Statement .sraAtHL := ⟨by decide, by decide⟩
theorem sraA : Statement .sraA := ⟨by decide, by decide⟩
theorem srlB : Statement .srlB := ⟨by decide, by decide⟩
theorem srlC : Statement .srlC := ⟨by decide, by decide⟩
theorem srlD : Statement .srlD := ⟨by decide, by decide⟩
theorem srlE : Statement .srlE := ⟨by decide, by decide⟩
theorem srlH : Statement .srlH := ⟨by decide, by decide⟩
theorem srlL : Statement .srlL := ⟨by decide, by decide⟩
theorem srlAtHL : Statement .srlAtHL := ⟨by decide, by decide⟩
theorem srlA : Statement .srlA := ⟨by decide, by decide⟩
theorem bit0_B : Statement .bit0_B := ⟨by decide, by decide⟩
theorem bit0_C : Statement .bit0_C := ⟨by decide, by decide⟩
theorem bit0_D : Statement .bit0_D := ⟨by decide, by decide⟩
theorem bit0_E : Statement .bit0_E := ⟨by decide, by decide⟩
theorem bit0_H : Statement .bit0_H := ⟨by decide, by decide⟩
theorem bit0_L : Statement .bit0_L := ⟨by decide, by decide⟩
theorem bit0_atHL : Statement .bit0_atHL := ⟨by decide, by decide⟩
theorem bit0_A : Statement .bit0_A := ⟨by decide, by decide⟩
theorem bit1_B : Statement .bit1_B := ⟨by decide, by decide⟩
theorem bit1_C : Statement .bit1_C := ⟨by decide, by decide⟩
theorem bit1_D : Statement .bit1_D := ⟨by decide, by decide⟩
theorem bit1_E : Statement .bit1_E := ⟨by decide, by decide⟩
theorem bit1_H : Statement .bit1_H := ⟨by decide, by decide⟩
theorem bit1_L : Statement .bit1_L := ⟨by decide, by decide⟩
theorem bit1_atHL : Statement .bit1_atHL := ⟨by decide, by decide⟩
theorem bit1_A : Statement .bit1_A := ⟨by decide, by decide⟩
theorem bit2_B : Statement .bit2_B := ⟨by decide, by decide⟩
theorem bit2_C : Statement .bit2_C := ⟨by decide, by decide⟩
theorem bit2_D : Statement .bit2_D := ⟨by decide, by decide⟩
theorem bit2_E : Statement .bit2_E := ⟨by decide, by decide⟩
theorem bit2_H : Statement .bit2_H := ⟨by decide, by decide⟩
theorem bit2_L : Statement .bit2_L := ⟨by decide, by decide⟩
theorem bit2_atHL : Statement .bit2_atHL := ⟨by decide, by decide⟩
theorem bit2_A : Statement .bit2_A := ⟨by decide, by decide⟩
theorem bit3_B : Statement .bit3_B := ⟨by decide, by decide⟩
theorem bit3_C : Statement .bit3_C := ⟨by decide, by decide⟩
theorem bit3_D : Statement .bit3_D := ⟨by decide, by decide⟩
theorem bit3_E : Statement .bit3_E := ⟨by decide, by decide⟩
theorem bit3_H : Statement .bit3_H := ⟨by decide, by decide⟩
theorem bit3_L : Statement .bit3_L := ⟨by decide, by decide⟩
theorem bit3_atHL : Statement .bit3_atHL := ⟨by decide, by decide⟩
theorem bit3_A : Statement .bit3_A := ⟨by decide, by decide⟩
theorem bit4_B : Statement .bit4_B := ⟨by decide, by decide⟩
theorem bit4_C : Statement .bit4_C := ⟨by decide, by decide⟩
theorem bit4_D : Statement .bit4_D := ⟨by decide, by decide⟩
theorem bit4_E : Statement .bit4_E := ⟨by decide, by decide⟩
theorem bit4_H : Statement .bit4_H := ⟨by decide, by decide⟩
theorem bit4_L : Statement .bit4_L := ⟨by decide, by decide⟩
theorem bit4_atHL : Statement .bit4_atHL := ⟨by decide, by decide⟩
theorem bit4_A : Statement .bit4_A := ⟨by decide, by decide⟩
theorem bit5_B : Statement .bit5_B := ⟨by decide, by decide⟩
theorem bit5_C : Statement .bit5_C := ⟨by decide, by decide⟩
theorem bit5_D : Statement .bit5_D := ⟨by decide, by decide⟩
theorem bit5_E : Statement .bit5_E := ⟨by decide, by decide⟩
theorem bit5_H : Statement .bit5_H := ⟨by decide, by decide⟩
theorem bit5_L : Statement .bit5_L := ⟨by decide, by decide⟩
theorem bit5_atHL : Statement .bit5_atHL := ⟨by decide, by decide⟩
theorem bit5_A : Statement .bit5_A := ⟨by decide, by decide⟩
theorem bit6_B : Statement .bit6_B := ⟨by decide, by decide⟩
theorem bit6_C : Statement .bit6_C := ⟨by decide, by decide⟩
theorem bit6_D : Statement .bit6_D := ⟨by decide, by decide⟩
theorem bit6_E : Statement .bit6_E := ⟨by decide, by decide⟩
theorem bit6_H : Statement .bit6_H := ⟨by decide, by decide⟩
theorem bit6_L : Statement .bit6_L := ⟨by decide, by decide⟩
theorem bit6_atHL : Statement .bit6_atHL := ⟨by decide, by decide⟩
theorem bit6_A : Statement .bit6_A := ⟨by decide, by decide⟩
theorem bit7_B : Statement .bit7_B := ⟨by decide, by decide⟩
theorem bit7_C : Statement .bit7_C := ⟨by decide, by decide⟩
theorem bit7_D : Statement .bit7_D := ⟨by decide, by decide⟩
theorem bit7_E : Statement .bit7_E := ⟨by decide, by decide⟩
theorem bit7_H : Statement .bit7_H := ⟨by decide, by decide⟩
theorem bit7_L : Statement .bit7_L := ⟨by decide, by decide⟩
theorem bit7_atHL : Statement .bit7_atHL := ⟨by decide, by decide⟩
theorem bit7_A : Statement .bit7_A := ⟨by decide, by decide⟩
theorem res0_B : Statement .res0_B := ⟨by decide, by decide⟩
theorem res0_C : Statement .res0_C := ⟨by decide, by decide⟩
theorem res0_D : Statement .res0_D := ⟨by decide, by decide⟩
theorem res0_E : Statement .res0_E := ⟨by decide, by decide⟩
theorem res0_H : Statement .res0_H := ⟨by decide, by decide⟩
theorem res0_L : Statement .res0_L := ⟨by decide, by decide⟩
theorem res0_atHL : Statement .res0_atHL := ⟨by decide, by decide⟩
theorem res0_A : Statement .res0_A := ⟨by decide, by decide⟩
theorem res1_B : Statement .res1_B := ⟨by decide, by decide⟩
theorem res1_C : Statement .res1_C := ⟨by decide, by decide⟩
theorem res1_D : Statement .res1_D := ⟨by decide, by decide⟩
theorem res1_E : Statement .res1_E := ⟨by decide, by decide⟩
theorem res1_H : Statement .res1_H := ⟨by decide, by decide⟩
theorem res1_L : Statement .res1_L := ⟨by decide, by decide⟩
theorem res1_atHL : Statement .res1_atHL := ⟨by decide, by decide⟩
theorem res1_A : Statement .res1_A := ⟨by decide, by decide⟩
theorem res2_B : Statement .res2_B := ⟨by decide, by decide⟩
theorem res2_C : Statement .res2_C := ⟨by decide, by decide⟩
theorem res2_D : Statement .res2_D := ⟨by decide, by decide⟩
theorem res2_E : Statement .res2_E := ⟨by decide, by decide⟩
theorem res2_H : Statement .res2_H := ⟨by decide, by decide⟩
theorem res2_L : Statement .res2_L := ⟨by decide, by decide⟩
theorem res2_atHL : Statement .res2_atHL := ⟨by decide, by decide⟩
theorem res2_A : Statement .res2_A := ⟨by decide, by decide⟩
theorem res3_B : Statement .res3_B := ⟨by decide, by decide⟩
theorem res3_C : Statement .res3_C := ⟨by decide, by decide⟩
theorem res3_D : Statement .res3_D := ⟨by decide, by decide⟩
theorem res3_E : Statement .res3_E := ⟨by decide, by decide⟩
theorem res3_H : Statement .res3_H := ⟨by decide, by decide⟩
theorem res3_L : Statement .res3_L := ⟨by decide, by decide⟩
theorem res3_atHL : Statement .res3_atHL := ⟨by decide, by decide⟩
theorem res3_A : Statement .res3_A := ⟨by decide, by decide⟩
theorem res4_B : Statement .res4_B := ⟨by decide, by decide⟩
theorem res4_C : Statement .res4_C := ⟨by decide, by decide⟩
theorem res4_D : Statement .res4_D := ⟨by decide, by decide⟩
theorem res4_E : Statement .res4_E := ⟨by decide, by decide⟩
theorem res4_H : Statement .res4_H := ⟨by decide, by decide⟩
theorem res4_L : Statement .res4_L := ⟨by decide, by decide⟩
theorem res4_atHL : Statement .res4_atHL := ⟨by decide, by decide⟩
theorem res4_A : Statement .res4_A := ⟨by decide, by decide⟩
theorem res5_B : Statement .res5_B := ⟨by decide, by decide⟩
theorem res5_C : Statement .res5_C := ⟨by decide, by decide⟩
theorem res5_D : Statement .res5_D := ⟨by decide, by decide⟩
theorem res5_E : Statement .res5_E := ⟨by decide, by decide⟩
theorem res5_H : Statement .res5_H := ⟨by decide, by decide⟩
theorem res5_L : Statement .res5_L := ⟨by decide, by decide⟩
theorem res5_atHL : Statement .res5_atHL := ⟨by decide, by decide⟩
theorem res5_A : Statement .res5_A := ⟨by decide, by decide⟩
theorem res6_B : Statement .res6_B := ⟨by decide, by decide⟩
theorem res6_C : Statement .res6_C := ⟨by decide, by decide⟩
theorem res6_D : Statement .res6_D := ⟨by decide, by decide⟩
theorem res6_E : Statement .res6_E := ⟨by decide, by decide⟩
theorem res6_H : Statement .res6_H := ⟨by decide, by decide⟩
theorem res6_L : Statement .res6_L := ⟨by decide, by decide⟩
theorem res6_atHL : Statement .res6_atHL := ⟨by decide, by decide⟩
theorem res6_A : Statement .res6_A := ⟨by decide, by decide⟩
theorem res7_B : Statement .res7_B := ⟨by decide, by decide⟩
theorem res7_C : Statement .res7_C := ⟨by decide, by decide⟩
theorem res7_D : Statement .res7_D := ⟨by decide, by decide⟩
theorem res7_E : Statement .res7_E := ⟨by decide, by decide⟩
theorem res7_H : Statement .res7_H := ⟨by decide, by decide⟩
theorem res7_L : Statement .res7_L := ⟨by decide, by decide⟩
theorem res7_atHL : Statement .res7_atHL := ⟨by decide, by decide⟩
theorem res7_A : Statement .res7_A := ⟨by decide, by decide⟩
theorem set0_B : Statement .set0_B := ⟨by decide, by decide⟩
theorem set0_C : Statement .set0_C := ⟨by decide, by decide⟩
theorem set0_D : Statement .set0_D := ⟨by decide, by decide⟩
theorem set0_E : Statement .set0_E := ⟨by decide, by decide⟩
theorem set0_H : Statement .set0_H := ⟨by decide, by decide⟩
theorem set0_L : Statement .set0_L := ⟨by decide, by decide⟩
theorem set0_atHL : Statement .set0_atHL := ⟨by decide, by decide⟩
theorem set0_A : Statement .set0_A := ⟨by decide, by decide⟩
theorem set1_B : Statement .set1_B := ⟨by decide, by decide⟩
theorem set1_C : Statement .set1_C := ⟨by decide, by decide⟩
theorem set1_D : Statement .set1_D := ⟨by decide, by decide⟩
theorem set1_E : Statement .set1_E := ⟨by decide, by decide⟩
theorem set1_H : Statement .set1_H := ⟨by decide, by decide⟩
theorem set1_L : Statement .set1_L := ⟨by decide, by decide⟩
theorem set1_atHL : Statement .set1_atHL := ⟨by decide, by decide⟩
theorem set1_A : Statement .set1_A := ⟨by decide, by decide⟩
theorem set2_B : Statement .set2_B := ⟨by decide, by decide⟩
theorem set2_C : Statement .set2_C := ⟨by decide, by decide⟩
theorem set2_D : Statement .set2_D := ⟨by decide, by decide⟩
theorem set2_E : Statement .set2_E := ⟨by decide, by decide⟩
theorem set2_H : Statement .set2_H := ⟨by decide, by decide⟩
theorem set2_L : Statement .set2_L := ⟨by decide, by decide⟩
theorem set2_atHL : Statement .set2_atHL := ⟨by decide, by decide⟩
theorem set2_A : Statement .set2_A := ⟨by decide, by decide⟩
theorem set3_B : Statement .set3_B := ⟨by decide, by decide⟩
theorem set3_C : Statement .set3_C := ⟨by decide, by decide⟩
theorem set3_D : Statement .set3_D := ⟨by decide, by decide⟩
theorem set3_E : Statement .set3_E := ⟨by decide, by decide⟩
theorem set3_H : Statement .set3_H := ⟨by decide, by decide⟩
theorem set3_L : Statement .set3_L := ⟨by decide, by decide⟩
theorem set3_atHL : Statement .set3_atHL := ⟨by decide, by decide⟩
theorem set3_A : Statement .set3_A := ⟨by decide, by decide⟩
theorem set4_B : Statement .set4_B := ⟨by decide, by decide⟩
theorem set4_C : Statement .set4_C := ⟨by decide, by decide⟩
theorem set4_D : Statement .set4_D := ⟨by decide, by decide⟩
theorem set4_E : Statement .set4_E := ⟨by decide, by decide⟩
theorem set4_H : Statement .set4_H := ⟨by decide, by decide⟩
theorem set4_L : Statement .set4_L := ⟨by decide, by decide⟩
theorem set4_atHL : Statement .set4_atHL := ⟨by decide, by decide⟩
theorem set4_A : Statement .set4_A := ⟨by decide, by decide⟩
theorem set5_B : Statement .set5_B := ⟨by decide, by decide⟩
theorem set5_C : Statement .set5_C := ⟨by decide, by decide⟩
theorem set5_D : Statement .set5_D := ⟨by decide, by decide⟩
theorem set5_E : Statement .set5_E := ⟨by decide, by decide⟩
theorem set5_H : Statement .set5_H := ⟨by decide, by decide⟩
theorem set5_L : Statement .set5_L := ⟨by decide, by decide⟩
theorem set5_atHL : Statement .set5_atHL := ⟨by decide, by decide⟩
theorem set5_A : Statement .set5_A := ⟨by decide, by decide⟩
theorem set6_B : Statement .set6_B := ⟨by decide, by decide⟩
theorem set6_C : Statement .set6_C := ⟨by decide, by decide⟩
theorem set6_D : Statement .set6_D := ⟨by decide, by decide⟩
theorem set6_E : Statement .set6_E := ⟨by decide, by decide⟩
theorem set6_H : Statement .set6_H := ⟨by decide, by decide⟩
theorem set6_L : Statement .set6_L := ⟨by decide, by decide⟩
theorem set6_atHL : Statement .set6_atHL := ⟨by decide, by decide⟩
theorem set6_A : Statement .set6_A := ⟨by decide, by decide⟩
theorem set7_B : Statement .set7_B := ⟨by decide, by decide⟩
theorem set7_C : Statement .set7_C := ⟨by decide, by decide⟩
theorem set7_D : Statement .set7_D := ⟨by decide, by decide⟩
theorem set7_E : Statement .set7_E := ⟨by decide, by decide⟩
theorem set7_H : Statement .set7_H := ⟨by decide, by decide⟩
theorem set7_L : Statement .set7_L := ⟨by decide, by decide⟩
theorem set7_atHL : Statement .set7_atHL := ⟨by decide, by decide⟩
theorem set7_A : Statement .set7_A := ⟨by decide, by decide⟩
theorem addIX_BC : Statement .addIX_BC := ⟨by decide, by decide⟩
theorem addIX_DE : Statement .addIX_DE := ⟨by decide, by decide⟩
theorem incIX : Statement .incIX := ⟨by decide, by decide⟩
theorem addIX_IX : Statement .addIX_IX := ⟨by decide, by decide⟩
theorem decIX : Statement .decIX := ⟨by decide, by decide⟩
theorem addIX_SP : Statement .addIX_SP := ⟨by decide, by decide⟩
theorem popIX : Statement .popIX := ⟨by decide, by decide⟩
theorem pushIX : Statement .pushIX := ⟨by decide, by decide⟩
theorem jpIX : Statement .jpIX := ⟨by decide, by decide⟩
theorem ldSP_IX : Statement .ldSP_IX := ⟨by decide, by decide⟩

end Sys2Proof.Laws.EncodeLength
end

