-- ==== Sys2Proof/Laws/Registers.lean ====
section
/-! SUPPORT. What reading a register gives after each named update. -/

namespace Sys2Proof.Machine

variable (s : State)

/-! ## 8-bit registers -/

@[simp] theorem read8_addCycles (n : Nat) (r : Reg8) : (s.addCycles n).read8 r = s.read8 r := by cases r <;> rfl

@[simp] theorem read8_writeF (v : Byte) (r : Reg8) : (s.writeF v).read8 r = s.read8 r := by
  cases r <;> simp [State.read8, State.readA]

@[simp] theorem read8_writeLatch (w : Word) (r : Reg8) : (s.writeLatch w).read8 r = s.read8 r := by cases r <;> rfl

@[simp] theorem read8_afterRead8 (l : Loc) (r : Reg8) : (s.afterRead8 l).read8 r = s.read8 r := by
  cases l <;> cases r <;> rfl

@[simp] theorem read8_afterWrite (a : Word) (v : Byte) (g : Tag) (r : Reg8) :
    (s.afterWrite a v g).read8 r = s.read8 r := by
  cases r <;> rfl

theorem read8_write8_of_ne (q : Reg8) (v : Byte) {r : Reg8} (h : q ≠ r) : (s.write8 q v).read8 r = s.read8 r := by
  cases q <;> cases r <;> first
    | exact absurd rfl h
    | simp [State.write8, State.read8, State.readA, State.writeA]

@[simp] theorem read8_write8 (r : Reg8) (v : Byte) : (s.write8 r v).read8 r = v := by
  cases r <;> simp [State.write8, State.read8, State.readA, State.writeA]

theorem read8_writeA_of_ne (v : Byte) {r : Reg8} (h : .a ≠ r) : (s.writeA v).read8 r = s.read8 r :=
  read8_write8_of_ne s .a v h

/-! ## 16-bit registers -/

@[simp] theorem read16_addCycles (n : Nat) (r : Reg16) : (s.addCycles n).read16 r = s.read16 r := by cases r <;> rfl

@[simp] theorem read16_writeA (v : Byte) (r : Reg16) : (s.writeA v).read16 r = s.read16 r := by cases r <;> rfl

@[simp] theorem read16_writeF (v : Byte) (r : Reg16) : (s.writeF v).read16 r = s.read16 r := by cases r <;> rfl

@[simp] theorem read16_writeLatch (w : Word) (r : Reg16) : (s.writeLatch w).read16 r = s.read16 r := by cases r <;> rfl

@[simp] theorem read16_writePC (w : Word) (r : Reg16) : (s.writePC w).read16 r = s.read16 r := by cases r <;> rfl

@[simp] theorem read16_writeIFF (b : Bool) (r : Reg16) : (s.writeIFF b).read16 r = s.read16 r := by cases r <;> rfl

@[simp] theorem read16_afterRead (a : Word) (g : Tag) (r : Reg16) : (s.afterRead a g).read16 r = s.read16 r := by
  cases r <;> rfl

@[simp] theorem read16_afterRead16 (a : Word) (r : Reg16) : (s.afterRead16 a).read16 r = s.read16 r := by
  simp only [State.afterRead16, read16_afterRead]

/-! ## Flags and the accumulator -/

@[simp] theorem readF_addCycles (n : Nat) : (s.addCycles n).readF = s.readF := rfl

@[simp] theorem readF_writeLatch (w : Word) : (s.writeLatch w).readF = s.readF := rfl

@[simp] theorem readF_afterRead8 (l : Loc) : (s.afterRead8 l).readF = s.readF := by cases l <;> rfl

@[simp] theorem readF_afterWrite (a : Word) (v : Byte) (g : Tag) : (s.afterWrite a v g).readF = s.readF := rfl

@[simp] theorem readA_addCycles (n : Nat) : (s.addCycles n).readA = s.readA := rfl

@[simp] theorem readA_writeF (v : Byte) : (s.writeF v).readA = s.readA := by simp [State.readA]

@[simp] theorem byteAt_afterSrc (src : AluSrc) (a : Word) : (s.afterSrc src).byteAt a = s.byteAt a := by
  cases src with
  | loc l => exact byteAt_afterRead8 s l a
  | imm n => rfl

end Sys2Proof.Machine
end

