-- ==== Sys2Proof/Tests/Slice0.lean ====
section
/-! SUPPORT. Tests: what `WellFormed` refuses; every constructor's decoding, from bytes written out of the patterns of
the spec's opcode table; the bytes with no arm; the worked examples of the rules, one step each; and for every
obligation with hypotheses a state and operands that meet them. -/

namespace Sys2Proof.Tests

open Sys2Proof Sys2Proof.Machine

/-! ## WellFormed -/

/-- The one check of `WellFormed`: a prefix byte is no complete instruction (47 R349). -/
theorem test_wellFormed_refuses_indexPrefix : WellFormed .indexPrefix = false := by decide

theorem test_wellFormed_refuses_bitPrefix : WellFormed .bitPrefix = false := by decide

theorem test_wellFormed_accepts : WellFormed (.ldIXd_n 0x05 0x2A) = true := by decide

/-! ## Decoding: the rows of 30 R118, R124, R125, R126, in order. The operand bytes are d = 0x05, n = 0x2A, nn = 0x1234
(low byte first, 30 R104). -/

theorem test_decode_main_x0 :
    List.map decode [
      [0x00], [0x01, 0x34, 0x12], [0x02], [0x03], [0x04], [0x05], [0x06, 0x2A], [0x08], [0x09], [0x0A], [0x0B],
      [0x0C], [0x0D], [0x0E, 0x2A], [0x10, 0x05], [0x11, 0x34, 0x12], [0x12], [0x13], [0x14], [0x15], [0x16, 0x2A],
      [0x18, 0x05], [0x19], [0x1A], [0x1B], [0x1C], [0x1D], [0x1E, 0x2A], [0x20, 0x05], [0x21, 0x34, 0x12],
      [0x22, 0x34, 0x12], [0x23], [0x24], [0x25], [0x26, 0x2A], [0x28, 0x05], [0x29], [0x2A, 0x34, 0x12], [0x2B],
      [0x2C], [0x2D], [0x2E, 0x2A], [0x2F], [0x30, 0x05], [0x31, 0x34, 0x12], [0x32, 0x34, 0x12], [0x33], [0x34],
      [0x35], [0x36, 0x2A], [0x37], [0x38, 0x05], [0x39], [0x3A, 0x34, 0x12], [0x3B], [0x3C], [0x3D], [0x3E, 0x2A],
      [0x3F]] =
    List.map (fun i => .ok (i, [])) [
      .nop, .ldBC_nn 0x1234, .ldAtBC_A, .incBC, .incB, .decB, .ldB_n 0x2A, .exAF, .addHL_BC, .ldA_atBC, .decBC,
      .incC, .decC, .ldC_n 0x2A, .djnz 0x05, .ldDE_nn 0x1234, .ldAtDE_A, .incDE, .incD, .decD, .ldD_n 0x2A, .jr 0x05,
      .addHL_DE, .ldA_atDE, .decDE, .incE, .decE, .ldE_n 0x2A, .jrNZ 0x05, .ldHL_nn 0x1234, .ldMem_HL 0x1234, .incHL,
      .incH, .decH, .ldH_n 0x2A, .jrZ 0x05, .addHL_HL, .ldHL_mem 0x1234, .decHL, .incL, .decL, .ldL_n 0x2A, .cpl,
      .jrNC 0x05, .ldSP_nn 0x1234, .ldMem_A 0x1234, .incSP, .incAtHL, .decAtHL, .ldAtHL_n 0x2A, .scf, .jrC 0x05,
      .addHL_SP, .ldA_mem 0x1234, .decSP, .incA, .decA, .ldA_n 0x2A, .ccf] := by
  rfl

theorem test_decode_main_x1 :
    List.map decode [
      [0x40], [0x41], [0x42], [0x43], [0x44], [0x45], [0x46], [0x47], [0x48], [0x49], [0x4A], [0x4B], [0x4C], [0x4D],
      [0x4E], [0x4F], [0x50], [0x51], [0x52], [0x53], [0x54], [0x55], [0x56], [0x57], [0x58], [0x59], [0x5A], [0x5B],
      [0x5C], [0x5D], [0x5E], [0x5F], [0x60], [0x61], [0x62], [0x63], [0x64], [0x65], [0x66], [0x67], [0x68], [0x69],
      [0x6A], [0x6B], [0x6C], [0x6D], [0x6E], [0x6F], [0x70], [0x71], [0x72], [0x73], [0x74], [0x75], [0x76], [0x77],
      [0x78], [0x79], [0x7A], [0x7B], [0x7C], [0x7D], [0x7E], [0x7F]] =
    List.map (fun i => .ok (i, [])) [
      .ldB_B, .ldB_C, .ldB_D, .ldB_E, .ldB_H, .ldB_L, .ldB_atHL, .ldB_A, .ldC_B, .ldC_C, .ldC_D, .ldC_E, .ldC_H,
      .ldC_L, .ldC_atHL, .ldC_A, .ldD_B, .ldD_C, .ldD_D, .ldD_E, .ldD_H, .ldD_L, .ldD_atHL, .ldD_A, .ldE_B, .ldE_C,
      .ldE_D, .ldE_E, .ldE_H, .ldE_L, .ldE_atHL, .ldE_A, .ldH_B, .ldH_C, .ldH_D, .ldH_E, .ldH_H, .ldH_L, .ldH_atHL,
      .ldH_A, .ldL_B, .ldL_C, .ldL_D, .ldL_E, .ldL_H, .ldL_L, .ldL_atHL, .ldL_A, .ldAtHL_B, .ldAtHL_C, .ldAtHL_D,
      .ldAtHL_E, .ldAtHL_H, .ldAtHL_L, .halt, .ldAtHL_A, .ldA_B, .ldA_C, .ldA_D, .ldA_E, .ldA_H, .ldA_L, .ldA_atHL,
      .ldA_A] := by
  rfl

theorem test_decode_main_x2 :
    List.map decode [
      [0x80], [0x81, 0x2A], [0x82], [0x83], [0x84], [0x85], [0x86], [0x87], [0x88], [0x89, 0x2A], [0x8A], [0x8B],
      [0x8C], [0x8D], [0x8E], [0x8F], [0x90], [0x91, 0x2A], [0x92], [0x93], [0x94], [0x95], [0x96], [0x97], [0x98],
      [0x99, 0x2A], [0x9A], [0x9B], [0x9C], [0x9D], [0x9E], [0x9F], [0xA0], [0xA1, 0x2A], [0xA2], [0xA3], [0xA4],
      [0xA5], [0xA6], [0xA7], [0xA8], [0xA9, 0x2A], [0xAA], [0xAB], [0xAC], [0xAD], [0xAE], [0xAF], [0xB0],
      [0xB1, 0x2A], [0xB2], [0xB3], [0xB4], [0xB5], [0xB6], [0xB7], [0xB8], [0xB9, 0x2A], [0xBA], [0xBB], [0xBC],
      [0xBD], [0xBE], [0xBF]] =
    List.map (fun i => .ok (i, [])) [
      .addA_B, .addA_n 0x2A, .addA_D, .addA_E, .addA_H, .addA_L, .addA_atHL, .addA_A, .adcA_B, .adcA_n 0x2A, .adcA_D,
      .adcA_E, .adcA_H, .adcA_L, .adcA_atHL, .adcA_A, .subA_B, .subA_n 0x2A, .subA_D, .subA_E, .subA_H, .subA_L,
      .subA_atHL, .subA_A, .sbcA_B, .sbcA_n 0x2A, .sbcA_D, .sbcA_E, .sbcA_H, .sbcA_L, .sbcA_atHL, .sbcA_A, .andA_B,
      .andA_n 0x2A, .andA_D, .andA_E, .andA_H, .andA_L, .andA_atHL, .andA_A, .xorA_B, .xorA_n 0x2A, .xorA_D, .xorA_E,
      .xorA_H, .xorA_L, .xorA_atHL, .xorA_A, .orA_B, .orA_n 0x2A, .orA_D, .orA_E, .orA_H, .orA_L, .orA_atHL, .orA_A,
      .cpA_B, .cpA_n 0x2A, .cpA_D, .cpA_E, .cpA_H, .cpA_L, .cpA_atHL, .cpA_A] := by
  rfl

theorem test_decode_main_x3 :
    List.map decode [
      [0xC0], [0xC1], [0xC2, 0x34, 0x12], [0xC3, 0x34, 0x12], [0xC4, 0x34, 0x12], [0xC5], [0xC6], [0xC7], [0xC8],
      [0xC9], [0xCA, 0x34, 0x12], [0xCC, 0x34, 0x12], [0xCD, 0x34, 0x12], [0xCE], [0xCF], [0xD0], [0xD1],
      [0xD2, 0x34, 0x12], [0xD3, 0x2A], [0xD4, 0x34, 0x12], [0xD5], [0xD6], [0xD7], [0xD8], [0xD9],
      [0xDA, 0x34, 0x12], [0xDB, 0x2A], [0xDC, 0x34, 0x12], [0xDE], [0xDF], [0xE0], [0xE1], [0xE2, 0x34, 0x12],
      [0xE4, 0x34, 0x12], [0xE5], [0xE6], [0xE7], [0xE8], [0xE9], [0xEA, 0x34, 0x12], [0xEC, 0x34, 0x12], [0xEF],
      [0xF0], [0xF1], [0xF2, 0x34, 0x12], [0xF3], [0xF4, 0x34, 0x12], [0xF5], [0xF7], [0xF8], [0xF9],
      [0xFA, 0x34, 0x12], [0xFB], [0xFC, 0x34, 0x12], [0xFF]] =
    List.map (fun i => .ok (i, [])) [
      .retNZ, .popBC, .jpNZ 0x1234, .jp 0x1234, .callNZ 0x1234, .pushBC, .im0, .rst00, .retZ, .ret, .jpZ 0x1234,
      .callZ 0x1234, .call 0x1234, .im1, .rst08, .retNC, .popDE, .jpNC 0x1234, .outPort_A 0x2A, .callNC 0x1234,
      .pushDE, .im2, .rst10, .retC, .exx, .jpC 0x1234, .inA_port 0x2A, .callC 0x1234, .ldI_A, .rst18, .retPO, .popHL,
      .jpPO 0x1234, .callPO 0x1234, .pushHL, .reti, .rst20, .retPE, .jpHL, .jpPE 0x1234, .callPE 0x1234, .rst28,
      .retP, .popAF, .jpP 0x1234, .di, .callP 0x1234, .pushAF, .rst30, .retM, .ldSP_HL, .jpM 0x1234, .ei,
      .callM 0x1234, .rst38] := by
  rfl

theorem test_decode_bit_x0 :
    List.map decode [
      [0xCB, 0x00], [0xCB, 0x01], [0xCB, 0x02], [0xCB, 0x03], [0xCB, 0x04], [0xCB, 0x05], [0xCB, 0x06], [0xCB, 0x07],
      [0xCB, 0x08], [0xCB, 0x09], [0xCB, 0x0A], [0xCB, 0x0B], [0xCB, 0x0C], [0xCB, 0x0D], [0xCB, 0x0E], [0xCB, 0x0F],
      [0xCB, 0x10], [0xCB, 0x11], [0xCB, 0x12], [0xCB, 0x13], [0xCB, 0x14], [0xCB, 0x15], [0xCB, 0x16], [0xCB, 0x17],
      [0xCB, 0x18], [0xCB, 0x19], [0xCB, 0x1A], [0xCB, 0x1B], [0xCB, 0x1C], [0xCB, 0x1D], [0xCB, 0x1E], [0xCB, 0x1F],
      [0xCB, 0x20], [0xCB, 0x21], [0xCB, 0x22], [0xCB, 0x23], [0xCB, 0x24], [0xCB, 0x25], [0xCB, 0x26], [0xCB, 0x27],
      [0xCB, 0x28], [0xCB, 0x29], [0xCB, 0x2A], [0xCB, 0x2B], [0xCB, 0x2C], [0xCB, 0x2D], [0xCB, 0x2E], [0xCB, 0x2F],
      [0xCB, 0x38], [0xCB, 0x39], [0xCB, 0x3A], [0xCB, 0x3B], [0xCB, 0x3C], [0xCB, 0x3D], [0xCB, 0x3E], [0xCB, 0x3F]] =
    List.map (fun i => .ok (i, [])) [
      .rlcB, .rlcC, .rlcD, .rlcE, .rlcH, .rlcL, .rlcAtHL, .rlcA, .rrcB, .rrcC, .rrcD, .rrcE, .rrcH, .rrcL, .rrcAtHL,
      .rrcA, .rlB, .rlC, .rlD, .rlE, .rlH, .rlL, .rlAtHL, .rlA, .rrB, .rrC, .rrD, .rrE, .rrH, .rrL, .rrAtHL, .rrA,
      .slaB, .slaC, .slaD, .slaE, .slaH, .slaL, .slaAtHL, .slaA, .sraB, .sraC, .sraD, .sraE, .sraH, .sraL, .sraAtHL,
      .sraA, .srlB, .srlC, .srlD, .srlE, .srlH, .srlL, .srlAtHL, .srlA] := by
  rfl

theorem test_decode_bit_x1 :
    List.map decode [
      [0xCB, 0x40], [0xCB, 0x41], [0xCB, 0x42], [0xCB, 0x43], [0xCB, 0x44], [0xCB, 0x45], [0xCB, 0x46], [0xCB, 0x47],
      [0xCB, 0x48], [0xCB, 0x49], [0xCB, 0x4A], [0xCB, 0x4B], [0xCB, 0x4C], [0xCB, 0x4D], [0xCB, 0x4E], [0xCB, 0x4F],
      [0xCB, 0x50], [0xCB, 0x51], [0xCB, 0x52], [0xCB, 0x53], [0xCB, 0x54], [0xCB, 0x55], [0xCB, 0x56], [0xCB, 0x57],
      [0xCB, 0x58], [0xCB, 0x59], [0xCB, 0x5A], [0xCB, 0x5B], [0xCB, 0x5C], [0xCB, 0x5D], [0xCB, 0x5E], [0xCB, 0x5F],
      [0xCB, 0x60], [0xCB, 0x61], [0xCB, 0x62], [0xCB, 0x63], [0xCB, 0x64], [0xCB, 0x65], [0xCB, 0x66], [0xCB, 0x67],
      [0xCB, 0x68], [0xCB, 0x69], [0xCB, 0x6A], [0xCB, 0x6B], [0xCB, 0x6C], [0xCB, 0x6D], [0xCB, 0x6E], [0xCB, 0x6F],
      [0xCB, 0x70], [0xCB, 0x71], [0xCB, 0x72], [0xCB, 0x73], [0xCB, 0x74], [0xCB, 0x75], [0xCB, 0x76], [0xCB, 0x77],
      [0xCB, 0x78], [0xCB, 0x79], [0xCB, 0x7A], [0xCB, 0x7B], [0xCB, 0x7C], [0xCB, 0x7D], [0xCB, 0x7E], [0xCB, 0x7F]] =
    List.map (fun i => .ok (i, [])) [
      .bit0_B, .bit0_C, .bit0_D, .bit0_E, .bit0_H, .bit0_L, .bit0_atHL, .bit0_A, .bit1_B, .bit1_C, .bit1_D, .bit1_E,
      .bit1_H, .bit1_L, .bit1_atHL, .bit1_A, .bit2_B, .bit2_C, .bit2_D, .bit2_E, .bit2_H, .bit2_L, .bit2_atHL,
      .bit2_A, .bit3_B, .bit3_C, .bit3_D, .bit3_E, .bit3_H, .bit3_L, .bit3_atHL, .bit3_A, .bit4_B, .bit4_C, .bit4_D,
      .bit4_E, .bit4_H, .bit4_L, .bit4_atHL, .bit4_A, .bit5_B, .bit5_C, .bit5_D, .bit5_E, .bit5_H, .bit5_L,
      .bit5_atHL, .bit5_A, .bit6_B, .bit6_C, .bit6_D, .bit6_E, .bit6_H, .bit6_L, .bit6_atHL, .bit6_A, .bit7_B,
      .bit7_C, .bit7_D, .bit7_E, .bit7_H, .bit7_L, .bit7_atHL, .bit7_A] := by
  rfl

theorem test_decode_bit_x2 :
    List.map decode [
      [0xCB, 0x80], [0xCB, 0x81], [0xCB, 0x82], [0xCB, 0x83], [0xCB, 0x84], [0xCB, 0x85], [0xCB, 0x86], [0xCB, 0x87],
      [0xCB, 0x88], [0xCB, 0x89], [0xCB, 0x8A], [0xCB, 0x8B], [0xCB, 0x8C], [0xCB, 0x8D], [0xCB, 0x8E], [0xCB, 0x8F],
      [0xCB, 0x90], [0xCB, 0x91], [0xCB, 0x92], [0xCB, 0x93], [0xCB, 0x94], [0xCB, 0x95], [0xCB, 0x96], [0xCB, 0x97],
      [0xCB, 0x98], [0xCB, 0x99], [0xCB, 0x9A], [0xCB, 0x9B], [0xCB, 0x9C], [0xCB, 0x9D], [0xCB, 0x9E], [0xCB, 0x9F],
      [0xCB, 0xA0], [0xCB, 0xA1], [0xCB, 0xA2], [0xCB, 0xA3], [0xCB, 0xA4], [0xCB, 0xA5], [0xCB, 0xA6], [0xCB, 0xA7],
      [0xCB, 0xA8], [0xCB, 0xA9], [0xCB, 0xAA], [0xCB, 0xAB], [0xCB, 0xAC], [0xCB, 0xAD], [0xCB, 0xAE], [0xCB, 0xAF],
      [0xCB, 0xB0], [0xCB, 0xB1], [0xCB, 0xB2], [0xCB, 0xB3], [0xCB, 0xB4], [0xCB, 0xB5], [0xCB, 0xB6], [0xCB, 0xB7],
      [0xCB, 0xB8], [0xCB, 0xB9], [0xCB, 0xBA], [0xCB, 0xBB], [0xCB, 0xBC], [0xCB, 0xBD], [0xCB, 0xBE], [0xCB, 0xBF]] =
    List.map (fun i => .ok (i, [])) [
      .res0_B, .res0_C, .res0_D, .res0_E, .res0_H, .res0_L, .res0_atHL, .res0_A, .res1_B, .res1_C, .res1_D, .res1_E,
      .res1_H, .res1_L, .res1_atHL, .res1_A, .res2_B, .res2_C, .res2_D, .res2_E, .res2_H, .res2_L, .res2_atHL,
      .res2_A, .res3_B, .res3_C, .res3_D, .res3_E, .res3_H, .res3_L, .res3_atHL, .res3_A, .res4_B, .res4_C, .res4_D,
      .res4_E, .res4_H, .res4_L, .res4_atHL, .res4_A, .res5_B, .res5_C, .res5_D, .res5_E, .res5_H, .res5_L,
      .res5_atHL, .res5_A, .res6_B, .res6_C, .res6_D, .res6_E, .res6_H, .res6_L, .res6_atHL, .res6_A, .res7_B,
      .res7_C, .res7_D, .res7_E, .res7_H, .res7_L, .res7_atHL, .res7_A] := by
  rfl

theorem test_decode_bit_x3 :
    List.map decode [
      [0xCB, 0xC0], [0xCB, 0xC1], [0xCB, 0xC2], [0xCB, 0xC3], [0xCB, 0xC4], [0xCB, 0xC5], [0xCB, 0xC6], [0xCB, 0xC7],
      [0xCB, 0xC8], [0xCB, 0xC9], [0xCB, 0xCA], [0xCB, 0xCB], [0xCB, 0xCC], [0xCB, 0xCD], [0xCB, 0xCE], [0xCB, 0xCF],
      [0xCB, 0xD0], [0xCB, 0xD1], [0xCB, 0xD2], [0xCB, 0xD3], [0xCB, 0xD4], [0xCB, 0xD5], [0xCB, 0xD6], [0xCB, 0xD7],
      [0xCB, 0xD8], [0xCB, 0xD9], [0xCB, 0xDA], [0xCB, 0xDB], [0xCB, 0xDC], [0xCB, 0xDD], [0xCB, 0xDE], [0xCB, 0xDF],
      [0xCB, 0xE0], [0xCB, 0xE1], [0xCB, 0xE2], [0xCB, 0xE3], [0xCB, 0xE4], [0xCB, 0xE5], [0xCB, 0xE6], [0xCB, 0xE7],
      [0xCB, 0xE8], [0xCB, 0xE9], [0xCB, 0xEA], [0xCB, 0xEB], [0xCB, 0xEC], [0xCB, 0xED], [0xCB, 0xEE], [0xCB, 0xEF],
      [0xCB, 0xF0], [0xCB, 0xF1], [0xCB, 0xF2], [0xCB, 0xF3], [0xCB, 0xF4], [0xCB, 0xF5], [0xCB, 0xF6], [0xCB, 0xF7],
      [0xCB, 0xF8], [0xCB, 0xF9], [0xCB, 0xFA], [0xCB, 0xFB], [0xCB, 0xFC], [0xCB, 0xFD], [0xCB, 0xFE], [0xCB, 0xFF]] =
    List.map (fun i => .ok (i, [])) [
      .set0_B, .set0_C, .set0_D, .set0_E, .set0_H, .set0_L, .set0_atHL, .set0_A, .set1_B, .set1_C, .set1_D, .set1_E,
      .set1_H, .set1_L, .set1_atHL, .set1_A, .set2_B, .set2_C, .set2_D, .set2_E, .set2_H, .set2_L, .set2_atHL,
      .set2_A, .set3_B, .set3_C, .set3_D, .set3_E, .set3_H, .set3_L, .set3_atHL, .set3_A, .set4_B, .set4_C, .set4_D,
      .set4_E, .set4_H, .set4_L, .set4_atHL, .set4_A, .set5_B, .set5_C, .set5_D, .set5_E, .set5_H, .set5_L,
      .set5_atHL, .set5_A, .set6_B, .set6_C, .set6_D, .set6_E, .set6_H, .set6_L, .set6_atHL, .set6_A, .set7_B,
      .set7_C, .set7_D, .set7_E, .set7_H, .set7_L, .set7_atHL, .set7_A] := by
  rfl

theorem test_decode_index_x0 :
    List.map decode [
      [0xDD, 0x09], [0xDD, 0x19], [0xDD, 0x21, 0x34, 0x12], [0xDD, 0x22, 0x34, 0x12], [0xDD, 0x23], [0xDD, 0x29],
      [0xDD, 0x2A, 0x34, 0x12], [0xDD, 0x2B], [0xDD, 0x34, 0x05], [0xDD, 0x35, 0x05], [0xDD, 0x36, 0x05, 0x2A],
      [0xDD, 0x39]] =
    List.map (fun i => .ok (i, [])) [
      .addIX_BC, .addIX_DE, .ldIX_nn 0x1234, .ldMem_IX 0x1234, .incIX, .addIX_IX, .ldIX_mem 0x1234, .decIX,
      .incIXd 0x05, .decIXd 0x05, .ldIXd_n 0x05 0x2A, .addIX_SP] := by
  rfl

theorem test_decode_index_x1 :
    List.map decode [
      [0xDD, 0x46, 0x05], [0xDD, 0x4E, 0x05], [0xDD, 0x56, 0x05], [0xDD, 0x5E, 0x05], [0xDD, 0x66, 0x05],
      [0xDD, 0x6E, 0x05], [0xDD, 0x70, 0x05], [0xDD, 0x71, 0x05], [0xDD, 0x72, 0x05], [0xDD, 0x73, 0x05],
      [0xDD, 0x74, 0x05], [0xDD, 0x75, 0x05], [0xDD, 0x77, 0x05], [0xDD, 0x7E, 0x05]] =
    List.map (fun i => .ok (i, [])) [
      .ldB_IXd 0x05, .ldC_IXd 0x05, .ldD_IXd 0x05, .ldE_IXd 0x05, .ldH_IXd 0x05, .ldL_IXd 0x05, .ldIXd_B 0x05,
      .ldIXd_C 0x05, .ldIXd_D 0x05, .ldIXd_E 0x05, .ldIXd_H 0x05, .ldIXd_L 0x05, .ldIXd_A 0x05, .ldA_IXd 0x05] := by
  rfl

theorem test_decode_index_x2 :
    List.map decode [
      [0xDD, 0x86, 0x05], [0xDD, 0x8E, 0x05], [0xDD, 0x96, 0x05], [0xDD, 0x9E, 0x05], [0xDD, 0xA6, 0x05],
      [0xDD, 0xAE, 0x05], [0xDD, 0xB6, 0x05], [0xDD, 0xBE, 0x05]] =
    List.map (fun i => .ok (i, [])) [
      .addA_IXd 0x05, .adcA_IXd 0x05, .subA_IXd 0x05, .sbcA_IXd 0x05, .andA_IXd 0x05, .xorA_IXd 0x05, .orA_IXd 0x05,
      .cpA_IXd 0x05] := by
  rfl

theorem test_decode_index_x3 :
    List.map decode [
      [0xDD, 0xE1], [0xDD, 0xE5], [0xDD, 0xE9], [0xDD, 0xF9]] =
    List.map (fun i => .ok (i, [])) [
      .popIX, .pushIX, .jpIX, .ldSP_IX] := by
  rfl

theorem test_decode_indexBit_x0 :
    List.map decode [
      [0xDD, 0xCB, 0x05, 0x06], [0xDD, 0xCB, 0x05, 0x0E], [0xDD, 0xCB, 0x05, 0x16], [0xDD, 0xCB, 0x05, 0x1E],
      [0xDD, 0xCB, 0x05, 0x26], [0xDD, 0xCB, 0x05, 0x2E], [0xDD, 0xCB, 0x05, 0x3E]] =
    List.map (fun i => .ok (i, [])) [
      .rlcIXd 0x05, .rrcIXd 0x05, .rlIXd 0x05, .rrIXd 0x05, .slaIXd 0x05, .sraIXd 0x05, .srlIXd 0x05] := by
  rfl

theorem test_decode_indexBit_x1 :
    List.map decode [
      [0xDD, 0xCB, 0x05, 0x46], [0xDD, 0xCB, 0x05, 0x4E], [0xDD, 0xCB, 0x05, 0x56], [0xDD, 0xCB, 0x05, 0x5E],
      [0xDD, 0xCB, 0x05, 0x66], [0xDD, 0xCB, 0x05, 0x6E], [0xDD, 0xCB, 0x05, 0x76], [0xDD, 0xCB, 0x05, 0x7E]] =
    List.map (fun i => .ok (i, [])) [
      .bit0_IXd 0x05, .bit1_IXd 0x05, .bit2_IXd 0x05, .bit3_IXd 0x05, .bit4_IXd 0x05, .bit5_IXd 0x05, .bit6_IXd 0x05,
      .bit7_IXd 0x05] := by
  rfl

theorem test_decode_indexBit_x2 :
    List.map decode [
      [0xDD, 0xCB, 0x05, 0x86], [0xDD, 0xCB, 0x05, 0x8E], [0xDD, 0xCB, 0x05, 0x96], [0xDD, 0xCB, 0x05, 0x9E],
      [0xDD, 0xCB, 0x05, 0xA6], [0xDD, 0xCB, 0x05, 0xAE], [0xDD, 0xCB, 0x05, 0xB6], [0xDD, 0xCB, 0x05, 0xBE]] =
    List.map (fun i => .ok (i, [])) [
      .res0_IXd 0x05, .res1_IXd 0x05, .res2_IXd 0x05, .res3_IXd 0x05, .res4_IXd 0x05, .res5_IXd 0x05, .res6_IXd 0x05,
      .res7_IXd 0x05] := by
  rfl

theorem test_decode_indexBit_x3 :
    List.map decode [
      [0xDD, 0xCB, 0x05, 0xC6], [0xDD, 0xCB, 0x05, 0xCE], [0xDD, 0xCB, 0x05, 0xD6], [0xDD, 0xCB, 0x05, 0xDE],
      [0xDD, 0xCB, 0x05, 0xE6], [0xDD, 0xCB, 0x05, 0xEE], [0xDD, 0xCB, 0x05, 0xF6], [0xDD, 0xCB, 0x05, 0xFE]] =
    List.map (fun i => .ok (i, [])) [
      .set0_IXd 0x05, .set1_IXd 0x05, .set2_IXd 0x05, .set3_IXd 0x05, .set4_IXd 0x05, .set5_IXd 0x05, .set6_IXd 0x05,
      .set7_IXd 0x05] := by
  rfl

/-- The prefix rows, as the one byte of their pattern (30 R121, R122; log entry 12). -/
theorem test_decode_prefixes : decodeTableWord 8 0xDD = some .indexPrefix ∧ decodeTableWord 8 0xCB = some .bitPrefix := by
  exact ⟨rfl, rfl⟩

/-- The first word is the low byte of the table's number. -/
theorem test_decodeTableWord : decodeTableWord 32 0xC605CBDD = some (.set0_IXd 0x05) ∧
    decodeTableWord 16 0x29DD = some .addIX_IX ∧ decodeTableWord 8 0x07 = none := by
  exact ⟨rfl, rfl, rfl⟩

/-- 30 R119, R127: byte sequences with no arm are refused by name. -/
theorem test_decode_undefined :
    decode [0x07] = .error (.noArm .none 0x07) ∧ decode [0xCB, 0x30] = .error (.noArm .bit 0x30) ∧
    decode [0xDD, 0x76] = .error (.noArm .index 0x76) ∧ decode [0xDD, 0xDD] = .error (.noArm .index 0xDD) ∧
    decode [0xDD, 0xCB, 0x05, 0x00] = .error (.noArm (.indexBit 0x05) 0x00) ∧ decode [0x3E] = .error .truncated := by
  exact ⟨rfl, rfl, rfl, rfl, rfl, rfl⟩

/-! ## One step: the worked examples of the rules -/

/-- A machine about to run code at 0x0100, with the stack at 0xFFFE; every other register is 0. -/
def base : State := { State.reset with pc := 0x0100, sp := 0xFFFE }

/-- The machine with code at `PC`. -/
def withCode (s : State) (code : List Byte) : State := s.placeBytes s.pc code

/-- The step answers a next state with a property. -/
def stepGives (s : State) (good : State → Bool) : Bool :=
  match step s with
  | .next t => good t
  | _ => false

/-- 42 R210. -/
theorem test_ld_r_r :
    stepGives (withCode { base with bc := 0x1200 } [0x78])
      (fun t => decide (t.readA = 0x12 ∧ t.cycles = 4)) = true := by
  decide

/-- 42 R211. -/
theorem test_ld_r_IXd :
    stepGives ((withCode { base with ix := 0x2000 } [0xDD, 0x7E, 0xFE]).placeBytes 0x1FFE [0x5A]) (fun t => decide (
      t.readA = 0x5A ∧
      t.latch = 0x1FFE ∧
      t.cycles = 19 ∧
      t.trace = [⟨.mem, .read, 0x0100, 0xDD, .fetch⟩, ⟨.mem, .read, 0x0101, 0x7E, .fetch⟩,
      ⟨.mem, .read, 0x0102, 0xFE, .fetchOperand⟩, ⟨.mem, .read, 0x1FFE, 0x5A, .data⟩])) = true := by
  decide

/-- 42 R211. -/
theorem test_ld_IXd_r_wraps :
    stepGives (withCode { base with ix := 0xFFFF, hl := 0x3300 } [0xDD, 0x74, 0x02])
      (fun t => decide (t.byteAt 0x0001 = 0x33 ∧ t.pc = 0x0103)) = true := by
  decide

/-- 42 R212. -/
theorem test_ld_r_n :
    stepGives (withCode { base with af := 0x0000 } [0x3E, 0x2A])
      (fun t => decide (t.readA = 0x2A ∧ t.cycles = 7)) = true := by
  decide

/-- 42 R212. -/
theorem test_ld_IXd_n :
    stepGives (withCode { base with ix := 0x0010 } [0xDD, 0x36, 0x05, 0x2A])
      (fun t => decide (t.byteAt 0x0015 = 0x2A ∧ t.cycles = 22 ∧ t.pc = 0x0104)) = true := by
  decide

/-- 42 R215. -/
theorem test_ld_A_BC :
    stepGives ((withCode { base with bc := 0x4000 } [0x0A]).placeBytes 0x4000 [0x99])
      (fun t => decide (t.readA = 0x99 ∧ t.latch = 0x0000)) = true := by
  decide

/-- 42 R216. -/
theorem test_ld_DE_A :
    stepGives (withCode { base with de := 0x4001, af := 0x7700 } [0x12])
      (fun t => decide (t.byteAt 0x4001 = 0x77)) = true := by
  decide

/-- 42 R217. -/
theorem test_ld_A_nn :
    stepGives ((withCode { base with af := 0x0000 } [0x3A, 0x00, 0x40]).placeBytes 0x4000 [0x11])
      (fun t => decide (t.readA = 0x11 ∧ t.latch = 0x4000 ∧ t.cycles = 13)) = true := by
  decide

/-- 42 R218. -/
theorem test_ld_nn_A :
    stepGives (withCode { base with af := 0xAB00 } [0x32, 0x34, 0x12])
      (fun t => decide (t.byteAt 0x1234 = 0xAB)) = true := by
  decide

/-- 42 R220. -/
theorem test_ld_rp_nn :
    stepGives (withCode { base with hl := 0x0000 } [0x21, 0x34, 0x12]) (fun t => decide (
      t.hl = 0x1234 ∧
      t.read8 .h = 0x12 ∧
      t.read8 .l = 0x34 ∧
      t.latch = 0x0000)) = true := by
  decide

/-- 42 R221. -/
theorem test_ld_HL_mem :
    stepGives ((withCode { base with hl := 0x0000 } [0x2A, 0x00, 0x40]).placeBytes 0x4000 [0xCD, 0xAB])
      (fun t => decide (t.hl = 0xABCD ∧ t.cycles = 16)) = true := by
  decide

/-- 42 R222. -/
theorem test_ld_mem_HL :
    stepGives (withCode { base with hl := 0xABCD } [0x22, 0x00, 0x40])
      (fun t => decide (t.byteAt 0x4000 = 0xCD ∧ t.byteAt 0x4001 = 0xAB)) = true := by
  decide

/-- 42 R224. -/
theorem test_ld_SP_HL :
    stepGives (withCode { base with hl := 0x8000 } [0xF9])
      (fun t => decide (t.sp = 0x8000 ∧ t.cycles = 6)) = true := by
  decide

/-- 42 R230. -/
theorem test_push :
    stepGives (withCode { base with bc := 0x1234 } [0xC5]) (fun t => decide (
      t.sp = 0xFFFC ∧
      t.trace.drop 1 = [⟨.mem, .write, 0xFFFD, 0x12, .data⟩, ⟨.mem, .write, 0xFFFC, 0x34, .data⟩])) = true := by
  decide

/-- 10 R31, 42 R230. -/
theorem test_push_AF_masks :
    stepGives (withCode { base with af := 0x12FF } [0xF5])
      (fun t => decide (t.byteAt 0xFFFD = 0x12 ∧ t.byteAt 0xFFFC = 0xD7)) = true := by
  decide

/-- 42 R231. -/
theorem test_pop :
    stepGives ((withCode { base with sp := 0xFFFC } [0xD1]).placeBytes 0xFFFC [0x34, 0x12])
      (fun t => decide (t.de = 0x1234 ∧ t.sp = 0xFFFE)) = true := by
  decide

/-- 42 R231. -/
theorem test_pop_AF :
    stepGives ((withCode { base with sp := 0x8000 } [0xF1]).placeBytes 0x8000 [0xFF, 0x12])
      (fun t => decide (t.af = 0x12FF ∧ t.readF = 0xD7)) = true := by
  decide

/-- 42 R236. -/
theorem test_ex_AF :
    stepGives (withCode { base with af := 0x1203, afAlt := 0x5642 } [0x08])
      (fun t => decide (t.af = 0x5642 ∧ t.afAlt = 0x1203)) = true := by
  decide

/-- 42 R237. -/
theorem test_exx :
    stepGives (withCode { base with bc := 1, de := 2, hl := 3, bcAlt := 4, deAlt := 5, hlAlt := 6 } [0xD9]) (fun t => decide (
      t.bc = 4 ∧
      t.de = 5 ∧
      t.hl = 6 ∧
      t.bcAlt = 1 ∧
      t.deAlt = 2 ∧
      t.hlAlt = 3)) = true := by
  decide

/-- 42 R240. -/
theorem test_in_A_n :
    stepGives (withCode { base with portIn := [0x5C] } [0xDB, 0x10])
      (fun t => decide (t.readA = 0x5C ∧ t.trace.drop 2 = [⟨.io, .read, 0x0010, 0x5C, .port⟩])) = true := by
  decide

/-- 42 R241. -/
theorem test_out_n_A :
    stepGives (withCode { base with af := 0x5C00 } [0xD3, 0x10])
      (fun t => decide (t.trace.drop 2 = [⟨.io, .write, 0x0010, 0x5C, .port⟩] ∧ t.cycles = 11)) = true := by
  decide

/-- 43 R250. -/
theorem test_add :
    stepGives (withCode { base with af := 0x3A00 } [0x81, 0x7C])
      (fun t => decide (t.readA = 0xB6 ∧ t.readF = 0x96)) = true := by
  decide

/-- 43 R251, 95 S1 (TESTED by the source: EB section 8). -/
theorem test_adc :
    stepGives (withCode { base with af := 0x3A03 } [0x89, 0x7C]) (fun t => decide (
      t.readA = 0xB7 ∧
      t.readF = 0x96 ∧
      t.pc = 0x0102 ∧
      t.cycles = 7 ∧
      t.trace = [⟨.mem, .read, 0x0100, 0x89, .fetch⟩, ⟨.mem, .read, 0x0101, 0x7C, .fetchOperand⟩])) = true := by
  decide

/-- 43 R252. -/
theorem test_sub :
    stepGives (withCode { base with af := 0x1000 } [0x91, 0x01])
      (fun t => decide (t.readA = 0x0F ∧ t.readF = 0x12)) = true := by
  decide

/-- 43 R253. -/
theorem test_sbc :
    stepGives (withCode { base with af := 0x0001 } [0x99, 0x00])
      (fun t => decide (t.readA = 0xFF ∧ t.readF = 0x93)) = true := by
  decide

/-- 43 R254. -/
theorem test_and :
    stepGives (withCode { base with af := 0xF000 } [0xA1, 0x0F])
      (fun t => decide (t.readA = 0x00 ∧ t.readF = 0x46)) = true := by
  decide

/-- 43 R255. -/
theorem test_xor :
    stepGives (withCode { base with af := 0x5A00 } [0xA9, 0xFF])
      (fun t => decide (t.readA = 0xA5 ∧ t.readF = 0x86)) = true := by
  decide

/-- 43 R256. -/
theorem test_or :
    stepGives (withCode { base with af := 0x8000 } [0xB1, 0x01])
      (fun t => decide (t.readA = 0x81 ∧ t.readF = 0x86)) = true := by
  decide

/-- 43 R257. -/
theorem test_cp :
    stepGives (withCode { base with af := 0x1000 } [0xB9, 0x10])
      (fun t => decide (t.readA = 0x10 ∧ t.readF = 0x42)) = true := by
  decide

/-- 43 R252. -/
theorem test_sub_A_A :
    stepGives (withCode { base with af := 0x3400 } [0x97])
      (fun t => decide (t.readA = 0x00 ∧ t.readF = 0x42)) = true := by
  decide

/-- 43 R262. -/
theorem test_inc_r :
    stepGives (withCode { base with bc := 0x7F00, af := 0x0003 } [0x04])
      (fun t => decide (t.read8 .b = 0x80 ∧ t.readF = 0x97)) = true := by
  decide

/-- 43 R263. -/
theorem test_dec_r :
    stepGives (withCode { base with bc := 0x0100, af := 0x0002 } [0x05])
      (fun t => decide (t.read8 .b = 0x00 ∧ t.readF = 0x42)) = true := by
  decide

/-- 43 R265. -/
theorem test_cpl :
    stepGives (withCode { base with af := 0x5A00 } [0x2F])
      (fun t => decide (t.readA = 0xA5)) = true := by
  decide

/-- 43 R266. -/
theorem test_scf :
    stepGives (withCode { base with af := 0x0002 } [0x37])
      (fun t => decide (t.readF = 0x03)) = true := by
  decide

/-- 43 R267. -/
theorem test_ccf :
    stepGives (withCode { base with af := 0x0003 } [0x3F])
      (fun t => decide (t.readF = 0x02)) = true := by
  decide

/-- 43 R270. -/
theorem test_add_HL_rp :
    stepGives (withCode { base with hl := 0xFFFF, bc := 0x0001 } [0x09])
      (fun t => decide (t.hl = 0x0000 ∧ t.readF = 0x03)) = true := by
  decide

/-- 43 R271. -/
theorem test_add_IX_rp :
    stepGives (withCode { base with ix := 0x1000, de := 0x0234, hl := 0x0007 } [0xDD, 0x19])
      (fun t => decide (t.ix = 0x1234 ∧ t.hl = 0x0007 ∧ t.readF = 0x02 ∧ t.cycles = 15)) = true := by
  decide

/-- 43 R272. -/
theorem test_inc_rp :
    stepGives (withCode { base with bc := 0x00FF } [0x03])
      (fun t => decide (t.bc = 0x0100)) = true := by
  decide

/-- 43 R273. -/
theorem test_dec_rp :
    stepGives (withCode { base with sp := 0x0000 } [0x3B])
      (fun t => decide (t.sp = 0xFFFF)) = true := by
  decide

/-- 45 R290. -/
theorem test_rlc :
    stepGives (withCode { base with bc := 0x8100 } [0xCB, 0x00])
      (fun t => decide (t.read8 .b = 0x03 ∧ t.readF = 0x07)) = true := by
  decide

/-- 45 R291. -/
theorem test_rrc :
    stepGives (withCode { base with bc := 0x0001 } [0xCB, 0x09])
      (fun t => decide (t.read8 .c = 0x80 ∧ t.readF = 0x83)) = true := by
  decide

/-- 45 R292. -/
theorem test_rl :
    stepGives (withCode { base with de := 0x8000 } [0xCB, 0x12])
      (fun t => decide (t.read8 .d = 0x00 ∧ t.readF = 0x47)) = true := by
  decide

/-- 45 R293. -/
theorem test_rr :
    stepGives (withCode { base with de := 0x0001, af := 0x0001 } [0xCB, 0x1B])
      (fun t => decide (t.read8 .e = 0x80 ∧ t.readF = 0x83)) = true := by
  decide

/-- 45 R294. -/
theorem test_sla :
    stepGives (withCode { base with hl := 0xC000 } [0xCB, 0x24])
      (fun t => decide (t.read8 .h = 0x80 ∧ t.readF = 0x83)) = true := by
  decide

/-- 45 R295. -/
theorem test_sra :
    stepGives (withCode { base with hl := 0x0081 } [0xCB, 0x2D])
      (fun t => decide (t.read8 .l = 0xC0 ∧ t.readF = 0x87)) = true := by
  decide

/-- 45 R296. -/
theorem test_srl :
    stepGives (withCode { base with af := 0x0100 } [0xCB, 0x3F])
      (fun t => decide (t.readA = 0x00 ∧ t.readF = 0x47)) = true := by
  decide

/-- 45 R300. -/
theorem test_bit :
    stepGives (withCode { base with af := 0x8042 } [0xCB, 0x7F])
      (fun t => decide (t.readF = 0x02)) = true := by
  decide

/-- 45 R301. -/
theorem test_res :
    stepGives ((withCode { base with hl := 0x4000 } [0xCB, 0x86]).placeBytes 0x4000 [0xFF])
      (fun t => decide (t.byteAt 0x4000 = 0xFE ∧ t.cycles = 15)) = true := by
  decide

/-- 45 R302. -/
theorem test_set :
    stepGives (withCode { base with ix := 0x3000 } [0xDD, 0xCB, 0x05, 0xC6]) (fun t => decide (
      t.byteAt 0x3005 = 0x01 ∧
      t.cycles = 27 ∧
      t.trace = [⟨.mem, .read, 0x0100, 0xDD, .fetch⟩, ⟨.mem, .read, 0x0101, 0xCB, .fetch⟩,
      ⟨.mem, .read, 0x0102, 0x05, .fetchOperand⟩, ⟨.mem, .read, 0x0103, 0xC6, .fetch⟩,
      ⟨.mem, .read, 0x3005, 0x00, .data⟩, ⟨.mem, .write, 0x3005, 0x01, .data⟩])) = true := by
  decide

/-- 46 R310. -/
theorem test_jp :
    stepGives (withCode { base with af := 0x0000 } [0xC3, 0x00, 0x20])
      (fun t => decide (t.pc = 0x2000 ∧ t.latch = 0x2000)) = true := by
  decide

/-- 46 R311. -/
theorem test_jp_cc_taken :
    stepGives (withCode { base with af := 0x0040 } [0xCA, 0x00, 0x20])
      (fun t => decide (t.pc = 0x2000)) = true := by
  decide

/-- 46 R311. -/
theorem test_jp_cc_not_taken :
    stepGives (withCode { base with af := 0x0000 } [0xCA, 0x00, 0x20])
      (fun t => decide (t.pc = 0x0103 ∧ t.latch = 0x2000 ∧ t.cycles = 10)) = true := by
  decide

/-- 46 R312. -/
theorem test_jp_HL :
    stepGives (withCode { base with hl := 0x1234 } [0xE9])
      (fun t => decide (t.pc = 0x1234 ∧ t.latch = 0x0000)) = true := by
  decide

/-- 46 R314. -/
theorem test_jr :
    stepGives (withCode { base with af := 0x0000 } [0x18, 0x05])
      (fun t => decide (t.pc = 0x0107)) = true := by
  decide

/-- 46 R314. -/
theorem test_jr_to_itself :
    stepGives (withCode { base with af := 0x0000 } [0x18, 0xFE])
      (fun t => decide (t.pc = 0x0100)) = true := by
  decide

/-- 46 R315. -/
theorem test_jr_cc_taken :
    stepGives (withCode { base with pc := 0x0200 } [0x20, 0xFC])
      (fun t => decide (t.pc = 0x01FE ∧ t.cycles = 12)) = true := by
  decide

/-- 46 R315. -/
theorem test_jr_cc_not_taken :
    stepGives (withCode { base with pc := 0x0200, af := 0x0040 } [0x20, 0xFC])
      (fun t => decide (t.pc = 0x0202 ∧ t.cycles = 7 ∧ t.latch = 0x0000)) = true := by
  decide

/-- 46 R316. -/
theorem test_djnz_taken :
    stepGives (withCode { base with pc := 0x0300, bc := 0x0200 } [0x10, 0xFE])
      (fun t => decide (t.read8 .b = 0x01 ∧ t.pc = 0x0300 ∧ t.cycles = 13)) = true := by
  decide

/-- 46 R316. -/
theorem test_djnz_not_taken :
    stepGives (withCode { base with pc := 0x0300, bc := 0x0100 } [0x10, 0xFE])
      (fun t => decide (t.read8 .b = 0x00 ∧ t.pc = 0x0302 ∧ t.cycles = 8)) = true := by
  decide

/-- 46 R320. -/
theorem test_call :
    stepGives (withCode { base with af := 0x0000 } [0xCD, 0x00, 0x20]) (fun t => decide (
      t.byteAt 0xFFFD = 0x01 ∧
      t.byteAt 0xFFFC = 0x03 ∧
      t.sp = 0xFFFC ∧
      t.pc = 0x2000)) = true := by
  decide

/-- 46 R321. -/
theorem test_call_cc_not_taken :
    stepGives (withCode { base with af := 0x0000 } [0xDC, 0x00, 0x20])
      (fun t => decide (t.pc = 0x0103 ∧ t.sp = 0xFFFE ∧ t.cycles = 10)) = true := by
  decide

/-- 46 R324. -/
theorem test_ret :
    stepGives ((withCode { base with sp := 0xFFFC } [0xC9]).placeBytes 0xFFFC [0x03, 0x01])
      (fun t => decide (t.pc = 0x0103 ∧ t.sp = 0xFFFE)) = true := by
  decide

/-- 46 R325. -/
theorem test_ret_cc :
    stepGives ((withCode { base with sp := 0xFFFC, af := 0x0040 } [0xC8]).placeBytes 0xFFFC [0x03, 0x01])
      (fun t => decide (t.pc = 0x0103 ∧ t.cycles = 11)) = true := by
  decide

/-- 46 R330. -/
theorem test_rst :
    stepGives (withCode { base with pc := 0x1234, sp := 0x8000 } [0xEF]) (fun t => decide (
      t.byteAt 0x7FFF = 0x12 ∧
      t.byteAt 0x7FFE = 0x35 ∧
      t.sp = 0x7FFE ∧
      t.pc = 0x0028)) = true := by
  decide

/-- 47 R340. -/
theorem test_nop :
    stepGives (withCode { base with pc := 0x0000 } [0x00])
      (fun t => decide (t.pc = 0x0001 ∧ t.trace = [⟨.mem, .read, 0x0000, 0x00, .fetch⟩])) = true := by
  decide

/-- 47 R342. -/
theorem test_halt :
    stepGives (withCode { base with pc := 0x2000 } [0x76]) (fun t => decide (
      t.pc = 0x2000 ∧
      t.halted = true ∧
      t.trace = [⟨.mem, .read, 0x2000, 0x76, .fetch⟩])) = true := by
  decide

/-- 47 R344. -/
theorem test_di :
    stepGives (withCode { base with iff := true } [0xF3])
      (fun t => decide (t.iff = false)) = true := by
  decide

/-- 47 R345. -/
theorem test_ei :
    stepGives (withCode { base with iff := false } [0xFB])
      (fun t => decide (t.iff = true)) = true := by
  decide

/-- 47 R346. -/
theorem test_im :
    stepGives (withCode { base with im := .im0 } [0xD6])
      (fun t => decide (t.im = .im2)) = true := by
  decide

/-- 47 R347. -/
theorem test_ld_I_A :
    stepGives (withCode { base with af := 0x8000 } [0xDE])
      (fun t => decide (t.i = 0x80)) = true := by
  decide

/-- 47 R348. -/
theorem test_reti :
    stepGives ((withCode { base with sp := 0xFFFC } [0xE6]).placeBytes 0xFFFC [0x01, 0x20])
      (fun t => decide (t.pc = 0x2001 ∧ t.sp = 0xFFFE ∧ t.iff = true)) = true := by
  decide

/-- 60 R381, R385; 95 S7. -/
theorem test_int_wakes :
    stepGives (withCode { base with pc := 0x2000, halted := true, iff := true, im := .im1, intLine := true } [0x76]) (fun t => decide (
      t.pc = 0x0038 ∧
      t.cycles = 13 ∧
      t.halted = false ∧
      t.iff = false ∧
      t.byteAt 0xFFFD = 0x20 ∧
      t.byteAt 0xFFFC = 0x01)) = true := by
  decide

/-- 60 R384. -/
theorem test_int_mode0 :
    stepGives (withCode { base with iff := true, intLine := true, intData := 0xFF } [0x00])
      (fun t => decide (t.pc = 0x0038 ∧ t.cycles = 13)) = true := by
  decide

/-- 60 R386. -/
theorem test_int_mode2 :
    stepGives ((withCode { base with iff := true, intLine := true, im := .im2, i := 0x40, intData := 0x06 } [0x00]).placeBytes 0x4006 [0x00, 0x50])
      (fun t => decide (t.pc = 0x5000 ∧ t.cycles = 19 ∧ t.latch = 0x4006)) = true := by
  decide

/-- 60 R382. -/
theorem test_nmi :
    stepGives (withCode { base with nmiLine := true, intLine := true, iff := true } [0x00])
      (fun t => decide (t.pc = 0x0066 ∧ t.nmiLine = false ∧ t.iff = true ∧ t.cycles = 11)) = true := by
  decide

/-- 70 R413. -/
theorem test_reset :
    stepGives (withCode { base with resetLine := true, nmiLine := true, af := 0x12FF, bc := 0x3456 } [0x00]) (fun t => decide (
      t.pc = 0x0000 ∧
      t.sp = 0xFFFF ∧
      t.af = 0x1200 ∧
      t.bc = 0x3456 ∧
      t.nmiLine = true ∧
      t.cycles = 3)) = true := by
  decide

/-- 41 R194, 95 S8: one fetch, and the fault. -/
theorem test_decodeFailure :
    (match step (withCode base [0x07]) with
      | .fault (.decodeFailure left first bytes) =>
        decide (left.pc = 0x0101 ∧ left.faulted = true ∧ left.cycles = 0 ∧ first = 0x0100 ∧ bytes = [0x07] ∧
          left.trace = [⟨.mem, .read, 0x0100, 0x07, .fetch⟩])
      | _ => false) = true := by
  decide

/-! ## Hypotheses met: for every obligation that has some, a state and operands that meet them all -/

/-- The machine on the REF bus with nothing pending, at a boundary of the stack and of the index range. -/
def edge : State := { base with sp := 0x0001, hl := 0xFFFF, ix := 0xFFFF, bc := 0x80FF, de := 0x0000, af := 0x7FFF }

/-- A system bus with one read-only region of two bytes at 0x8000, one of which has no backing store. -/
def romOnly : State :=
  { base with map := [{ first := 0x8000, last := 0x8001, base := 0x8000, mask := 0xFFFF, access := .readOnly, origin := 0, length := 1 }] }

/-- The same, writable. -/
def shortRam : State :=
  { base with map := [{ first := 0x8000, last := 0x8001, base := 0x8000, mask := 0xFFFF, access := .readWrite, origin := 0, length := 1 }] }

theorem witness_DecodeOfEncode : WellFormed (.ldIXd_n 0x80 0xFF) = true ∧ WellFormed .nop = true := by decide

theorem witness_EncodeOfDecode :
    decode [0xDD, 0x36, 0x80, 0xFF, 0x07] = .ok (.ldIXd_n 0x80 0xFF, [0x07]) ∧ decode [0x00] = .ok (.nop, []) := by
  exact ⟨rfl, rfl⟩

/-- A four-byte instruction that wraps round the end of memory. -/
theorem witness_StepRunsTheDecodedInstruction :
    (withCode { base with pc := 0xFFFE } [0xDD, 0xCB, 0x05, 0xC6]).ready ∧
    decode (withCode { base with pc := 0xFFFE } [0xDD, 0xCB, 0x05, 0xC6]).codeBytes = .ok (.set0_IXd 0x05, []) := by
  exact ⟨by decide, rfl⟩

/-- The three lengths at which decoding fails. -/
theorem witness_StepFailsExactlyWithoutArm :
    (withCode base [0x07]).ready ∧
    (∃ left, step (withCode base [0x07]) = .fault (.decodeFailure left 0x0100 [0x07])) ∧
    (withCode base [0xDD, 0xDD]).ready ∧
    (∃ left, step (withCode base [0xDD, 0xDD]) = .fault (.decodeFailure left 0x0100 [0xDD, 0xDD])) ∧
    (withCode base [0xDD, 0xCB, 0x05, 0x00]).ready ∧
    ∃ left, step (withCode base [0xDD, 0xCB, 0x05, 0x00]) = .fault (.decodeFailure left 0x0100 [0xDD, 0xCB, 0x05, 0x00]) := by
  exact ⟨by decide, ⟨_, rfl⟩, by decide, ⟨_, rfl⟩, by decide, _, rfl⟩

theorem witness_IdleSteps :
    ({ base with powered := false } : State).powered = false ∧ ({ base with faulted := true } : State).faulted = true := by
  decide

/-- Halted, `INT` raised but masked. -/
theorem witness_IdleSteps_halted :
    let s : State := { base with halted := true, intLine := true }
    s.powered = true ∧ s.faulted = false ∧ s.halted = true ∧ s.resetLine = false ∧ s.nmiLine = false ∧
    (s.intLine && s.iff) = false := by
  decide

/-- The two ends of the range. -/
theorem witness_StepCostBounds :
    base.powered = true ∧ base.faulted = false ∧
    stepGives { base with resetLine := true } (fun t => decide (t.cycles = 3)) = true ∧
    stepGives (withCode base [0xDD, 0xCB, 0x05, 0xC6]) (fun t => decide (t.cycles = 27)) = true := by
  decide

theorem witness_FaultStopsTheMachine :
    (∃ left first bytes, step (withCode base [0x07]) = .fault (.decodeFailure left first bytes)) ∧
    ∃ left, step romOnly = .fault (.configurationError left .unmapped 0x0100) := by
  exact ⟨⟨_, _, _, rfl⟩, _, rfl⟩

theorem witness_EveryInstructionRunsOnRefBus : WellFormed (.set7_IXd 0x80) = true ∧ edge.onRefBus ∧
    ∃ left, exec (.set7_IXd 0x80) romOnly = .fault (.configurationError left .unmapped 0xFF80) := by
  exact ⟨by decide, by decide, _, rfl⟩

theorem witness_StepKeepsInv : (withCode base [0x76]).inv ∧ ∃ t, step (withCode base [0x76]) = .next t := by
  exact ⟨by decide, _, rfl⟩

theorem witness_StepKeepsHaltInv :
    ({ withCode base [0x76] with halted := true } : State).haltInv ∧
    (∃ t, step { withCode base [0x76] with halted := true } = .next t) ∧
    (withCode base [0x76]).haltInv ∧ ∃ t, step (withCode base [0x76]) = .next t := by
  exact ⟨by decide, ⟨_, rfl⟩, by decide, _, rfl⟩

/-- 0x7F + 0x01 (signed overflow), and with the carry in 0xFF + 0x00 + 1 (carry out). -/
theorem witness_AddArithmetic :
    Form.alu .add (.imm 0x01) = some (.addA_n 0x01) ∧ Form.alu .adc (.loc (.atIX 0x80)) = some (.adcA_IXd 0x80) ∧
    edge.onRefBus := by
  exact ⟨rfl, rfl, by decide⟩

theorem witness_SubArithmetic :
    Form.alu .sub (.loc (.reg .a)) = some .subA_A ∧ Form.alu .sbc (.imm 0xFF) = some (.sbcA_n 0xFF) ∧
    Form.alu .cp (.loc .atHL) = some .cpA_atHL ∧ edge.onRefBus := by
  exact ⟨rfl, rfl, rfl, by decide⟩

theorem witness_LogicArithmetic :
    Form.alu .and (.loc (.reg .l)) = some .andA_L ∧ Form.alu .xor (.imm 0xFF) = some (.xorA_n 0xFF) ∧
    Form.alu .or (.loc (.atIX 0x7F)) = some (.orA_IXd 0x7F) ∧ edge.onRefBus := by
  exact ⟨rfl, rfl, rfl, by decide⟩

theorem witness_LoadStoreRegister : edge.onRefBus ∧ edge.address8 (.atIX 0x02) = some 0x0001 := by decide

theorem witness_LoadImmediate : edge.onRefBus ∧ edge.address8 .atHL = some 0xFFFF := by decide

theorem witness_LoadStoreAccumulator :
    (0x3A : Byte) ∈ [0x0A, 0x1A, 0x02, 0x12, 0x3A, (0x32 : Byte)] ∧ edge.onRefBus ∧
    Instr.ldMem_A 0xFFFF ∈ [.ldA_atBC, .ldA_atDE, .ldAtBC_A, .ldAtDE_A, .ldA_mem 0xFFFF, .ldMem_A 0xFFFF] := by
  exact ⟨by decide, by decide, by simp⟩

theorem witness_LoadPair : (0x31 : Byte) ∈ [0x01, 0x11, (0x31 : Byte)] := by decide

/-- The word at 0xFFFF has its high byte at 0x0000. -/
theorem witness_LoadStoreWord : edge.onRefBus ∧ (0xFFFF : Word) + 1 = 0x0000 := by decide

/-- A push at `SP = 0x0001` writes 0x0000, then 0xFFFF. -/
theorem witness_PushPair :
    (0xF5 : Byte) ∈ [0xC5, 0xD5, (0xF5 : Byte)] ∧ edge.onRefBus ∧ edge.sp - 1 = 0x0000 ∧ edge.sp - 2 = 0xFFFF := by
  decide

theorem witness_PopPair : ({ edge with sp := 0xFFFF } : State).onRefBus ∧ StackReg.bc ≠ .af := by decide

theorem witness_BankSwitch : (∃ t, exec .exAF edge = .next t) ∧ ∃ t, exec .exx edge = .next t := by
  exact ⟨⟨_, rfl⟩, _, rfl⟩

/-- An answer ready, and none (the value is then a free one). -/
theorem witness_PortInputOutput :
    ({ base with portIn := [0x5C] } : State).hooks = [] ∧ ({ base with portIn := [0x5C] } : State).portIn = 0x5C :: [] ∧
    base.hooks = [] ∧ base.portIn = [] := by
  decide

theorem witness_AccumulatorOperation :
    Form.alu .add (.loc (.reg .c)) = none ∧ Form.alu .cp (.loc (.atIX 0xFF)) = some (.cpA_IXd 0xFF) ∧ edge.onRefBus ∧
    (7 : Nat) ≠ 6 ∧ 7 < 8 := by
  exact ⟨rfl, rfl, by decide, by decide, by decide⟩

/-- `IX+d` at 0xFFFE, the operand at 0xFFFF; `A` is 0x7F. -/
theorem witness_IncDecOperand : edge.onRefBus ∧ edge.address8 (.atIX 0xFF) = some 0xFFFE ∧ edge.value8 (.reg .a) = 0x7F ∧
    edge.value8 (.reg .b) = 0x80 ∧ edge.value8 (.reg .c) = 0xFF ∧ edge.value8 (.reg .d) = 0x00 := by
  decide

theorem witness_IncDecPair : (0x3B : Byte) ∈ [0x03, 0x13, 0x33, 0x0B, 0x1B, (0x3B : Byte)] ∧
    edge.read16 .hl = 0xFFFF ∧ edge.read16 .de = 0x0000 := by
  decide

theorem witness_RotateOperand : edge.onRefBus ∧ RotOp.rlc ≠ .rrc ∧ edge.value8 (.reg .b) = 0x80 := by decide

theorem witness_BitTest : edge.onRefBus ∧ (edge.value8 (.reg .b)).getLsbD Oct.y7.toNat = true ∧
    (edge.value8 (.reg .b)).getLsbD Oct.y0.toNat = false := by
  decide

theorem witness_BitResetSet : edge.onRefBus ∧ Oct.y7.toNat = 7 ∧ edge.address8 (.atIX 0x80) = some 0xFF7F := by decide

/-- Each outcome of a condition; the flags of `edge` are all set, those of `base` all clear. -/
theorem witness_Calls : edge.onRefBus ∧ condHolds edge.readF .z = true ∧ condHolds edge.readF .nz = false := by decide

theorem witness_Returns : base.onRefBus ∧ condHolds base.readF .p = true ∧ condHolds base.readF .m = false := by decide

theorem witness_Restart : edge.onRefBus ∧ edge.sp - 2 = 0xFFFF := by decide

theorem witness_PrefixBytes :
    base.pfx = .none ∧ ({ base with pfx := .index } : State).pfx = .index ∧
    ({ base with pfx := .index } : State).onRefBus := by
  decide

/-- One instruction for each shape; every one runs. -/
theorem witness_FrameNoStore :
    edge.onRefBus ∧ (∃ t, exec (Form.load8 .h .atHL) edge = .next t) ∧
    (∃ t, exec (Form.loadImm 0xFF (.reg .a)) edge = .next t) ∧
    (Form.alu .cp (.imm 0xFF) = some (.cpA_n 0xFF) ∧ ∃ t, exec (.cpA_n 0xFF) edge = .next t) ∧
    (∃ t, exec (Form.inc8 (.reg .c)) edge = .next t) ∧ (∃ t, exec (Form.dec8 (.reg .d)) edge = .next t) ∧
    (∃ t, exec (Form.rot .rl (.reg .a)) edge = .next t) ∧ (∃ t, exec (Form.bit .y7 (.atIX 0x80)) edge = .next t) ∧
    (∃ t, exec (Form.res .y0 (.reg .c)) edge = .next t) ∧ ∃ t, exec (Form.set .y7 (.reg .l)) edge = .next t := by
  exact ⟨by decide, ⟨_, rfl⟩, ⟨_, rfl⟩, ⟨rfl, _, rfl⟩, ⟨_, rfl⟩, ⟨_, rfl⟩, ⟨_, rfl⟩, ⟨_, rfl⟩, ⟨_, rfl⟩, _, rfl⟩

/-- One instruction for each shape; the addresses are the last and one that wraps. -/
theorem witness_FrameStoreByte :
    edge.onRefBus ∧ edge.address8 .atHL = some 0xFFFF ∧ edge.address8 (.atIX 0x02) = some 0x0001 ∧
    (∃ t, exec (Form.storeHL .l) edge = .next t) ∧ (∃ t, exec (Form.storeIX 0x02 .h) edge = .next t) ∧
    (∃ t, exec (Form.loadImm 0xFF .atHL) edge = .next t) ∧ (∃ t, exec (Form.inc8 (.atIX 0x02)) edge = .next t) ∧
    (∃ t, exec (Form.dec8 .atHL) edge = .next t) ∧ (∃ t, exec (Form.rot .srl .atHL) edge = .next t) ∧
    (∃ t, exec (Form.res .y7 (.atIX 0x02)) edge = .next t) ∧ ∃ t, exec (Form.set .y0 .atHL) edge = .next t := by
  exact ⟨by decide, by decide, by decide, ⟨_, rfl⟩, ⟨_, rfl⟩, ⟨_, rfl⟩, ⟨_, rfl⟩, ⟨_, rfl⟩, ⟨_, rfl⟩, ⟨_, rfl⟩, _, rfl⟩

/-- One instruction for each shape; a call taken and one not taken. -/
theorem witness_FrameStoreWord :
    edge.onRefBus ∧ (∃ t, exec .ldAtBC_A edge = .next t) ∧ (∃ t, exec .ldAtDE_A edge = .next t) ∧
    (∃ t, exec (.ldMem_A 0xFFFF) edge = .next t) ∧ (∃ t, exec (Form.storeMem16 0xFFFF .ix) edge = .next t) ∧
    (∃ t, exec (Form.push .af) edge = .next t) ∧ (∃ t, exec (.call 0xFFFF) edge = .next t) ∧
    (∃ t, exec (Form.callCond 0x0000 .z) edge = .next t) ∧ (∃ t, exec (Form.callCond 0x0000 .nz) edge = .next t) ∧
    ∃ t, exec (Form.restart .y7) edge = .next t := by
  exact ⟨by decide, ⟨_, rfl⟩, ⟨_, rfl⟩, ⟨_, rfl⟩, ⟨_, rfl⟩, ⟨_, rfl⟩, ⟨_, rfl⟩, ⟨_, rfl⟩, ⟨_, rfl⟩, _, rfl⟩

/-- One instruction for each shape. -/
theorem witness_FrameWordRegisters :
    edge.onRefBus ∧ (∃ t, exec (Form.loadPair 0xFFFF .ix) edge = .next t) ∧
    (∃ t, exec (Form.loadMem16 0xFFFF .hl) edge = .next t) ∧ (∃ t, exec (Form.loadSP .ix) edge = .next t) ∧
    (∃ t, exec (.ldA_mem 0xFFFF) edge = .next t) ∧ (∃ t, exec (.inA_port 0xFF) edge = .next t) ∧
    (∃ t, exec .ccf edge = .next t) ∧ (∃ t, exec (Form.pop .bc) edge = .next t) ∧
    (∃ t, exec (Form.pop .de) edge = .next t) ∧ (∃ t, exec (Form.pop .hl) edge = .next t) ∧
    (∃ t, exec (Form.pop .ix) edge = .next t) ∧ (∃ t, exec (Form.pop .af) edge = .next t) ∧
    (∃ t, exec .reti edge = .next t) ∧ (∃ t, exec (Form.retCond .c) edge = .next t) ∧
    (∃ t, exec (Form.add16 .ix .third) edge = .next t) ∧ (∃ t, exec (Form.inc16 .hl) edge = .next t) ∧
    (∃ t, exec (.outPort_A 0xFF) edge = .next t) ∧ (∃ t, exec (Form.jumpRelCond 0x80 .z) edge = .next t) ∧
    ∃ t, exec (.djnz 0x80) edge = .next t := by
  exact ⟨by decide, ⟨_, rfl⟩, ⟨_, rfl⟩, ⟨_, rfl⟩, ⟨_, rfl⟩, ⟨_, rfl⟩, ⟨_, rfl⟩, ⟨_, rfl⟩, ⟨_, rfl⟩, ⟨_, rfl⟩, ⟨_, rfl⟩,
    ⟨_, rfl⟩, ⟨_, rfl⟩, ⟨_, rfl⟩, ⟨_, rfl⟩, ⟨_, rfl⟩, ⟨_, rfl⟩, ⟨_, rfl⟩, _, rfl⟩

theorem witness_WordsAreLittleEndian : edge.onRefBus := by decide

/-- A push at `SP = 0x0001` wraps. -/
theorem witness_StackIsDescending : edge.onRefBus ∧ edge.sp = 0x0001 := by decide

/-- An address above the region; the byte past the backing store; and a store to each. -/
theorem witness_ConfigurationErrors :
    let r1 := (romOnly.writeAddress 0x8002).hook (.reading 0x8002)
    let r2 := (romOnly.writeAddress 0x8001).hook (.reading 0x8001)
    let w1 := ((romOnly.writeAddress 0x7FFF).writeData 0x01).hook (.writing 0x7FFF 0x01)
    let w2 := ((romOnly.writeAddress 0x8000).writeData 0x01).hook (.writing 0x8000 0x01)
    let w3 := ((shortRam.writeAddress 0x8001).writeData 0x01).hook (.writing 0x8001 0x01)
    (mapAddr r1.map 0x8002).isNone = true ∧
    (mapAddr r2.map 0x8001).any (fun r => decide (r.length ≤ ((0x8001 - r.base) &&& r.mask).toNat)) = true ∧
    (mapAddr w1.map 0x7FFF).isNone = true ∧
    (mapAddr w2.map 0x8000).any (fun r => decide (r.access = .readOnly)) = true ∧
    (mapAddr w3.map 0x8001).any
      (fun r => decide (r.access = .readWrite ∧ r.length ≤ ((0x8001 - r.base) &&& r.mask).toNat)) = true := by
  decide

/-- With the environment driving a line at the first hook. -/
theorem witness_TransactionsKeepTheBlock :
    let s : State := { base with hooks := [[.raiseNmi], [.poke 0x0005 0x77]] }
    (∃ t, memRead 0x0005 .data s = .ok 0x00 t) ∧ (∃ t, memWrite 0x0005 0x01 .data s = .ok () t) ∧
    (∃ v t, ioRead 0xFF s = .ok v t) ∧ ∃ t, ioWrite 0xFF 0x01 s = .ok () t := by
  exact ⟨⟨_, rfl⟩, ⟨_, rfl⟩, ⟨_, _, rfl⟩, _, rfl⟩

theorem witness_ResetService :
    let s : State := { base with resetLine := true }
    s.powered = true ∧ s.faulted = false ∧ s.resetLine = true := by
  decide

/-- Halted, with the stack pointer at 0x0001. -/
theorem witness_NmiService :
    let s : State := { edge with nmiLine := true, halted := true }
    s.onRefBus ∧ s.powered = true ∧ s.faulted = false ∧ s.resetLine = false ∧ s.nmiLine = true := by
  decide

/-- In each of the three modes. -/
theorem witness_IntService : ∀ m ∈ [IntMode.im0, .im1, .im2],
    let s : State := { edge with intLine := true, iff := true, im := m, i := 0xFF, intData := 0xFF }
    s.onRefBus ∧ s.powered = true ∧ s.faulted = false ∧ s.resetLine = false ∧ s.nmiLine = false ∧
    s.intLine = true ∧ s.iff = true ∧ s.im = m := by
  decide

theorem witness_EnableTakesEffectAtOnce :
    let s := withCode { base with intLine := true } [0xFB]
    s.ready ∧ s.byteAt s.pc = 0xFB ∧ s.intLine = true := by
  decide

/-- The REF map, as a map the environment may put in force. -/
def refMap : BoundedMap := ⟨[refRegion], mapInBounds_ref⟩

/-- A system bus of one region whose last address is the last byte of its store. At the first hook of the step the
environment raises `NMI` and makes the map the REF map. -/
def bankSwitch : State :=
  { base with
    map := [{ first := 0x0000, last := 0x01FF, base := 0x0000, mask := 0x01FF, access := .readWrite, origin := 0, length := 0x0200 }]
    hooks := [[.raiseNmi, .remap refMap]] }

theorem witness_AssumedEnvironmentStaysInBounds :
    mapInBounds bankSwitch.map = true ∧ ∃ t, step bankSwitch = .next t ∧ t.nmiLine = true ∧ t.map = [refRegion] := by
  exact ⟨mapInBounds_of_mask (by decide), _, rfl, rfl, rfl⟩

/-- Both lines raised: the first step services `RESET` and keeps `NMI`, the second services `NMI`. An instruction runs
with a line raised at a hook. -/
theorem witness_RaisedLinesWaitForTheirService :
    (∃ t, step { base with resetLine := true, nmiLine := true } = .next t ∧ t.resetLine = false ∧ t.nmiLine = true) ∧
    (∃ t, step { base with nmiLine := true } = .next t ∧ t.nmiLine = false) ∧
    ∃ t, exec .ldA_atBC { base with hooks := [[.raiseReset]], nmiLine := true } = .next t := by
  exact ⟨⟨_, rfl, rfl, rfl⟩, ⟨_, rfl, rfl⟩, _, rfl⟩
end Sys2Proof.Tests
end

section
/-! PROOFS. The flags: the masked read of `F` (10 R31) and the conditions by the bit they test (30 R115). -/

namespace Sys2Proof.Machine

/-- The mask of 10 R31 with the numbers of 10 R30. -/
theorem normFlags_eq (raw : Byte) : normFlags raw = (raw ||| 0x02) &&& ~~~0x28 := rfl

/-- 10 R32, R31: all eight bits are stored, and a read masks them. -/
@[simp] theorem State.readF_writeF (s : State) (v : Byte) : (s.writeF v).readF = normFlags v := by
  rw [State.readF, State.writeF_af, loByte_joinBytes]

/-- 10 R20: a write of `F` leaves the other half of the pair as it was. -/
@[simp] theorem State.readA_writeF (s : State) (v : Byte) : (s.writeF v).readA = s.readA := by
  rw [State.readA, State.writeF_af, hiByte_joinBytes, State.readA]

/-- 42 R230: what is pushed for `AF` has the masked read of `F` as its low byte. -/
@[simp] theorem State.loByte_readStackReg_af (s : State) : loByte (s.readStackReg .af) = s.readF :=
  loByte_joinBytes s.readA s.readF

@[simp] theorem State.hiByte_readStackReg_af (s : State) : hiByte (s.readStackReg .af) = s.readA :=
  hiByte_joinBytes s.readA s.readF

/-- A mask of one bit tests that bit. -/
theorem flag_twoPow (f : Byte) {k : Nat} (hk : k < 8) : flag f (BitVec.twoPow 8 k) = f.getLsbD k := by
  have hmask : BitVec.twoPow 8 k ≠ 0 := fun h => by
    have hbit : (BitVec.twoPow 8 k).getLsbD k = (0 : Byte).getLsbD k := by rw [h]
    simp [hk] at hbit
  rw [flag, BitVec.and_twoPow]
  cases f.getLsbD k with
  | false => rfl
  | true => exact decide_eq_true hmask

theorem flag_maskS (f : Byte) : flag f maskS = f.getLsbD 7 := flag_twoPow f (k := 7) (by decide)
theorem flag_maskZ (f : Byte) : flag f maskZ = f.getLsbD 6 := flag_twoPow f (k := 6) (by decide)
theorem flag_maskPV (f : Byte) : flag f maskPV = f.getLsbD 2 := flag_twoPow f (k := 2) (by decide)
theorem flag_maskC (f : Byte) : flag f maskC = f.getLsbD 0 := flag_twoPow f (k := 0) (by decide)

/-- 30 R115: the table `CC`, each condition at its index. -/
theorem condHolds_eq_table (f : Byte) (cc : Cond) : condHolds f cc =
    [!f.getLsbD 6, f.getLsbD 6, !f.getLsbD 0, f.getLsbD 0, !f.getLsbD 2, f.getLsbD 2, !f.getLsbD 7, f.getLsbD 7].getD
      (codeCond cc) false := by
  cases cc with
  | nz => exact congrArg Bool.not (flag_maskZ f)
  | z => exact flag_maskZ f
  | nc => exact congrArg Bool.not (flag_maskC f)
  | c => exact flag_maskC f
  | po => exact congrArg Bool.not (flag_maskPV f)
  | pe => exact flag_maskPV f
  | p => exact congrArg Bool.not (flag_maskS f)
  | m => exact flag_maskS f

/-- Settles O15: the masked read by the laws of the halves of `AF`, the conditions by the bit each mask tests. -/
theorem flagReadsAndConditions : Obligations.FlagReadsAndConditions := by
  refine ⟨fun s v => ?_, condHolds_eq_table, rfl⟩
  obtain ⟨bit1, bit3, bit5⟩ := normFlags_reserved (loByte s.af)
  exact ⟨normFlags_eq (loByte s.af), bit1, bit3, bit5, (s.readF_writeF v).trans (normFlags_eq v), s.readA_writeF v,
    s.loByte_readStackReg_af, s.hiByte_readStackReg_af⟩

end Sys2Proof.Machine
end

section
/-! PROOFS. Words on the REF bus (20 R70) and the stack (20 R71): two byte transactions each, and where the bytes go. -/

namespace Sys2Proof.Machine

theorem add_one_ne_self (a : Word) : a + 1 ≠ a := by bv_omega

theorem ref_afterFetch {s : State} (h : s.onRefBus) (g : Tag) : (s.afterFetch g).onRefBus := h

theorem ref_afterPush {s : State} (h : s.onRefBus) (w : Word) : (s.afterPush w).onRefBus :=
  ⟨(s.afterPush_map w).trans h.1, (s.afterPush_hooks w).trans h.2⟩

@[simp] theorem byteAt_afterFetch (s : State) (g : Tag) (b : Word) : (s.afterFetch g).byteAt b = s.byteAt b := rfl

/-! ## 16-bit accesses (20 R70) -/

/-- 20 R70 on the REF bus, with any tag: a read of a word is the reads of its two bytes, the low one first. -/
theorem memRead16_ref_tag {s : State} (h : s.onRefBus) (a : Word) (g : Tag) :
    memRead16 a g s = .ok (s.wordAt a) ((s.afterRead a g).afterRead (a + 1) g) := by
  simp only [memRead16, memRead_ref h, memRead_ref (ref_afterRead h a g), Res.bind_ok, byteAt_afterRead, State.wordAt]

/-- 20 R70 on the REF bus, with any tag: a write of a word is the writes of its two bytes, the low one first. -/
theorem memWrite16_ref_tag {s : State} (h : s.onRefBus) (a w : Word) (g : Tag) :
    memWrite16 a w g s = .ok () ((s.afterWrite a (loByte w) g).afterWrite (a + 1) (hiByte w) g) := by
  rw [memWrite16, memWrite_ref h, Res.bind_ok, memWrite_ref (ref_afterWrite h a (loByte w) g)]

/-- 41 R188 on the REF bus: a 16-bit immediate is the word at `PC`, fetched byte by byte. -/
theorem fetchWord_ref {s : State} (h : s.onRefBus) :
    fetchWord s = .ok (s.wordAt s.pc) ((s.afterFetch .fetchOperand).afterFetch .fetchOperand) := by
  simp only [fetchWord, fetchByte_ref h, fetchByte_ref (ref_afterFetch h .fetchOperand), Res.bind_ok,
    State.afterFetch_pc, byteAt_afterFetch, State.wordAt]

theorem afterFetch_afterFetch_pc (s : State) (g g' : Tag) : ((s.afterFetch g).afterFetch g').pc = s.pc + 2 := by
  rw [State.afterFetch_pc, State.afterFetch_pc, add_one_one]

/-- Settles O48: a word's bytes lie at two different addresses, so neither write of a store hides the other. -/
theorem wordsAreLittleEndian : Obligations.WordsAreLittleEndian := by
  intro a w g s href
  refine ⟨memRead16_ref_tag href a g, ⟨_, memWrite16_ref_tag href a w g, ?low, ?high, ?frame, ?trace⟩,
    _, fetchWord_ref href, afterFetch_afterFetch_pc s _ _⟩
  case low => rw [byteAt_afterWrite, if_neg (add_one_ne_self a).symm, byteAt_afterWrite, if_pos rfl]
  case high => rw [byteAt_afterWrite, if_pos rfl]
  case frame =>
    intro b hlow hhigh
    rw [byteAt_afterWrite, if_neg hhigh, byteAt_afterWrite, if_neg hlow]
  case trace => exact List.append_assoc _ _ _

/-! ## The stack (20 R71) -/

/-- 20 R71: a pop reads two bytes, the low one at `SP` first. -/
theorem trace_afterPop (s : State) : s.afterPop.trace =
    s.trace ++ [⟨.mem, .read, s.sp, s.byteAt s.sp, .data⟩, ⟨.mem, .read, s.sp + 1, s.byteAt (s.sp + 1), .data⟩] :=
  List.append_assoc _ _ _

theorem byteAt_afterPush_high (s : State) (w : Word) : (s.afterPush w).byteAt (s.sp - 1) = hiByte w := by
  rw [byteAt_afterPush, if_neg (sub_one_ne_sub_two s.sp), if_pos rfl]

theorem byteAt_afterPush_low (s : State) (w : Word) : (s.afterPush w).byteAt (s.sp - 2) = loByte w := by
  rw [byteAt_afterPush, if_pos rfl]

/-- The push puts the two halves where a pop looks for them, also where `SP` wraps. -/
theorem stackTop_afterPush (s : State) (w : Word) : (s.afterPush w).stackTop = w := by
  have hhigh : s.sp - 2 + 1 = s.sp - 1 := by bv_omega
  rw [State.stackTop, afterPush_sp, hhigh, byteAt_afterPush_high, byteAt_afterPush_low, joinBytes_hi_lo]

theorem afterPop_afterPush_sp (s : State) (w : Word) : (s.afterPush w).afterPop.sp = s.sp := by
  rw [afterPop_sp, afterPush_sp, BitVec.sub_add_cancel]

/-- 20 R71 on the REF bus: a pop gives back the word just pushed. -/
theorem pop16_afterPush {s : State} (h : s.onRefBus) (w : Word) :
    pop16 (s.afterPush w) = .ok w (s.afterPush w).afterPop := by
  rw [pop16_ref (ref_afterPush h w), stackTop_afterPush]

/-- Settles O49, from what a push and a pop do on the REF bus and what the stack's top is after a push. -/
theorem stackIsDescending : Obligations.StackIsDescending := by
  intro w s href
  refine ⟨⟨_, pop16_ref href, afterPop_sp s, byteAt_afterPop s, trace_afterPop s⟩,
    _, push16_ref href w, afterPush_sp s w, byteAt_afterPush_high s w, byteAt_afterPush_low s w, ?frame,
    trace_afterPush s w, _, pop16_afterPush href w, afterPop_afterPush_sp s w⟩
  case frame =>
    intro b hhigh hlow
    rw [byteAt_afterPush, if_neg hlow, if_neg hhigh]

end Sys2Proof.Machine
end

section
/-! PROOFS. The decode matrix (30 R100, R101): each field of the quintuple as arithmetic on the byte. -/

namespace Sys2Proof

/-- A mask of the `n` low bits takes a byte modulo `2 ^ n`. -/
theorem toNat_and_lowMask (b : Byte) {n : Nat} {mask : Byte} (hmask : mask.toNat = 2 ^ n - 1) :
    (b &&& mask).toNat = b.toNat % 2 ^ n := by
  rw [BitVec.toNat_and, hmask, Nat.and_two_pow_sub_one_eq_mod]

/-- The bit field of `n` bits from bit `k` up. -/
theorem toNat_shiftRight_and_lowMask (b : Byte) (k : Nat) {n : Nat} {mask : Byte} (hmask : mask.toNat = 2 ^ n - 1) :
    (b >>> k &&& mask).toNat = b.toNat / 2 ^ k % 2 ^ n := by
  rw [toNat_and_lowMask _ hmask, BitVec.toNat_ushiftRight, Nat.shiftRight_eq_div_pow]

theorem quintuple_x (op : Byte) : (quintuple op).x = op.toNat / 64 % 4 := toNat_shiftRight_and_lowMask op 6 (n := 2) rfl
theorem quintuple_y (op : Byte) : (quintuple op).y = op.toNat / 8 % 8 := toNat_shiftRight_and_lowMask op 3 (n := 3) rfl
theorem quintuple_z (op : Byte) : (quintuple op).z = op.toNat % 8 := toNat_and_lowMask op (n := 3) rfl
theorem quintuple_p (op : Byte) : (quintuple op).p = op.toNat / 16 % 4 := toNat_shiftRight_and_lowMask op 4 (n := 2) rfl
theorem quintuple_q (op : Byte) : (quintuple op).q = op.toNat / 8 % 2 := toNat_shiftRight_and_lowMask op 3 (n := 1) rfl

/-- 30 R100: `x` is the two top bits, so nothing of a byte stands above it. -/
theorem quintuple_x_eq_div (op : Byte) : (quintuple op).x = op.toNat / 64 := by
  have hbyte : op.toNat < 64 * 4 := op.isLt
  rw [quintuple_x, Nat.mod_eq_of_lt (Nat.div_lt_of_lt_mul hbyte)]

/-- 30 R100, `p=(y>>1)&3`: the model reads `p` from the byte, the rule from `y`. -/
theorem quintuple_p_eq_y (op : Byte) : (quintuple op).p = (quintuple op).y / 2 % 4 := by
  rw [quintuple_p, quintuple_y]
  omega

/-- 30 R100, `q=y&1`, with the model's `q` read from the byte. -/
theorem quintuple_q_eq_y (op : Byte) : (quintuple op).q = (quintuple op).y % 2 := by
  rw [quintuple_q, quintuple_y]
  omega

/-- 30 R100: the layout `x x y y y z z z`. -/
theorem toNat_eq_of_quintuple (op : Byte) :
    op.toNat = (quintuple op).x * 64 + (quintuple op).y * 8 + (quintuple op).z := by
  rw [quintuple_x_eq_div, quintuple_y, quintuple_z]
  omega

/-- 30 R100: `y` is `p p q`. -/
theorem quintuple_y_eq_pq (op : Byte) : (quintuple op).y = 2 * (quintuple op).p + (quintuple op).q := by
  rw [quintuple_y, quintuple_p, quintuple_q]
  omega

/-- Settles O3: a field is in range because its mask takes a remainder, and the quotients and remainders recompose. -/
theorem decodeMatrixIsTotal : Obligations.DecodeMatrixIsTotal := by
  intro op
  refine ⟨?x_lt, ?y_lt, ?z_lt, ?p_lt, ?q_lt, quintuple_x_eq_div op, quintuple_y op, quintuple_z op,
    quintuple_p_eq_y op, quintuple_q_eq_y op, toNat_eq_of_quintuple op, quintuple_y_eq_pq op⟩
  case x_lt => exact quintuple_x op ▸ Nat.mod_lt _ (by decide)
  case y_lt => exact quintuple_y op ▸ Nat.mod_lt _ (by decide)
  case z_lt => exact quintuple_z op ▸ Nat.mod_lt _ (by decide)
  case p_lt => exact quintuple_p op ▸ Nat.mod_lt _ (by decide)
  case q_lt => exact quintuple_q op ▸ Nat.mod_lt _ (by decide)

end Sys2Proof
end

section
/-! PROOFS. The engine of a step (41 R180 to R184): what gates it, what its parts do, and the idle steps. -/

namespace Sys2Proof.Machine

/-! ## The gate of a step (41 R180, R181) -/

/-- 41 R181: the machine is not powered, or is faulted. -/
theorem step_of_idle {s : State} (hidle : s.powered = false ∨ s.faulted = true) : step s = .next s := by
  have hgate : ¬(s.powered && !s.faulted) = true := by
    rcases hidle with hpowered | hfaulted
    · simp [hpowered]
    · simp [hfaulted]
  exact if_neg hgate

/-- 41 R180: a powered machine without a fault acts between the start and the end of a step. -/
theorem step_of_powered {s : State} (hpowered : s.powered = true) (hfaulted : s.faulted = false) :
    step s = endStep s s.beginStep.pollAndAct := by
  have hgate : (s.powered && !s.faulted) = true := by simp [hpowered, hfaulted]
  exact if_pos hgate

/-! ## The end of a step (41 R180, R194) -/

/-- The zero test passes an action that has added a cost. -/
theorem endStep_next_of_cost {start s : State} (hcost : s.cycles ≠ 0) :
    endStep start (.next s) = .next ((s.emit .executedInstruction).writePfx .none) :=
  if_neg hcost

/-! ## The choice of the action (41 R183) -/

/-- 41 R184: `HALT` comes to act only where no line is to be serviced: neither `RESET` nor `NMI`, nor an enabled `INT`. -/
theorem pollAndAct_of_halted {s : State} (hhalted : s.halted = true) (hreset : s.resetLine = false)
    (hnmi : s.nmiLine = false) (hint : (s.intLine && s.iff) = false) : s.pollAndAct = .next (s.addCycles 4) := by
  rw [State.pollAndAct, if_neg (by simp [hreset]), if_neg (by simp [hnmi]), if_neg (by simp [hint]), if_pos hhalted,
    haltedStep]

/-! ## The idle steps -/

/-- 41 R184: the halted step, from the poll of the lines to the event at its end. -/
theorem step_of_halted {s : State} (hpowered : s.powered = true) (hfaulted : s.faulted = false)
    (hhalted : s.halted = true) (hreset : s.resetLine = false) (hnmi : s.nmiLine = false)
    (hint : (s.intLine && s.iff) = false) :
    step s = .next (((s.beginStep.addCycles 4).emit .executedInstruction).writePfx .none) := by
  have hact : s.beginStep.pollAndAct = .next (s.beginStep.addCycles 4) :=
    pollAndAct_of_halted (s := s.beginStep) hhalted hreset hnmi hint
  have hcost : (s.beginStep.addCycles 4).cycles ≠ 0 := Nat.succ_ne_zero _
  rw [step_of_powered hpowered hfaulted, hact, endStep_next_of_cost hcost]

/-- The halted step leaves the cost 4 and its two events, and no other component of the state is touched. -/
theorem haltedStep_state (s : State) :
    ((s.beginStep.addCycles 4).emit .executedInstruction).writePfx .none =
      { s with cycles := 4, pfx := .none, events := s.events ++ [.executingInstruction, .executedInstruction] } := by
  have hevents : (s.events ++ [.executingInstruction]) ++ [.executedInstruction] =
      s.events ++ [.executingInstruction, .executedInstruction] := List.append_assoc _ _ _
  rw [← hevents]
  rfl

/-- Settles O8: the gate of a step for the machine that does nothing, the choice of the action for the halted one. -/
theorem idleSteps : Obligations.IdleSteps := by
  refine ⟨fun s hidle => step_of_idle hidle, ?halted⟩
  case halted =>
    intro s hpowered hfaulted hhalted hreset hnmi hint
    rw [step_of_halted hpowered hfaulted hhalted hreset hnmi hint, haltedStep_state]

end Sys2Proof.Machine
end

section
/-! PROOFS. The decoder as the statements about encodings use it: what an arm takes as operand bytes, the bytes of an
opcode's quintuple, and the opcode bytes without an arm after 0xDD (30 R103, R104, R118, R124). -/

namespace Sys2Proof.Machine

/-! ## From the arm of an opcode byte to its decoding (41 R185) -/

/-- With these operand bytes the arm is this instruction, whatever bytes follow (30 R103). -/
def takesOperands (arm : Arm) (operands : List Byte) (i : Instr) : Prop :=
  ∀ t op rest, takeOperands t op arm (operands ++ rest) = .ok (i, rest)

theorem takesOperands_op (i : Instr) : takesOperands (.op i) [] i := fun _ _ _ => rfl

theorem takesOperands_byte (f : Byte → Instr) (n : Byte) : takesOperands (.byte f) [n] (f n) := fun _ _ _ => rfl

/-- 30 R104: the halves of the word come low byte first. -/
theorem takesOperands_word (f : Word → Instr) (nn : Word) : takesOperands (.word f) (wordBytes nn) (f nn) := by
  intro t op rest
  change Except.ok (f (joinBytes (hiByte nn) (loByte nn)), rest) = _
  rw [joinBytes_hi_lo]

theorem takesOperands_disp (f : Byte → Instr) (d : Byte) : takesOperands (.disp f) [d] (f d) := fun _ _ _ => rfl

theorem takesOperands_dispByte (f : Byte → Byte → Instr) (d n : Byte) :
    takesOperands (.dispByte f) [d, n] (f d n) := fun _ _ _ => rfl

/-- What the main table answers is the decoding, but for the bytes 0xDD and 0xCB (30 R121, R122). -/
theorem decode_of_main {bytes rest : List Byte} {i : Instr} (hunit : decodeUnit .none bytes = .ok (i, rest))
    (hi : WellFormed i = true) : decode bytes = .ok (i, rest) := by
  unfold decode
  rw [hunit]
  split
  · next h => cases h; cases hi
  · next h => cases h; cases hi
  · rfl

/-- What the index table answers is the decoding after 0xDD, but for 0xCB. -/
theorem decode_of_index {bytes rest : List Byte} {i : Instr} (hunit : decodeUnit .index bytes = .ok (i, rest))
    (hi : WellFormed i = true) : decode (0xDD :: bytes) = .ok (i, rest) := by
  have hprefix : decodeUnit .none (0xDD :: bytes) = .ok (.indexPrefix, bytes) := rfl
  unfold decode
  rw [hprefix]
  dsimp only
  rw [hunit]
  split
  · next h => cases h; cases hi
  · next h => cases h; cases hi
  · rfl

/-- 30 R118: an instruction of the main table, by the arm of its opcode byte. -/
theorem decodesTo_of_main {op : Byte} {arm : Arm} {operands : List Byte} {i : Instr} (harm : armOf .none op = arm)
    (htake : takesOperands arm operands i) (hi : WellFormed i = true) : decodesTo (op :: operands) i := by
  intro rest
  have hunit : decodeUnit .none (op :: (operands ++ rest)) = .ok (i, rest) := by
    rw [decodeUnit, harm, htake]
  exact decode_of_main hunit hi

/-- 30 R124: an instruction of the index table, by the arm of its opcode byte. -/
theorem decodesTo_of_index {op : Byte} {arm : Arm} {operands : List Byte} {i : Instr} (harm : armOf .index op = arm)
    (htake : takesOperands arm operands i) (hi : WellFormed i = true) : decodesTo (0xDD :: op :: operands) i := by
  intro rest
  have hunit : decodeUnit .index (op :: (operands ++ rest)) = .ok (i, rest) := by
    rw [decodeUnit, harm, htake]
  exact decode_of_index hunit hi

/-! ## The fields of an opcode byte (30 R100) -/

theorem toNat_opcode {x y z : Nat} (hx : x < 4) (hy : y < 8) (hz : z < 8) :
    (opcode x y z).toNat = x * 64 + y * 8 + z := by
  rw [opcode, BitVec.toNat_ofNat]
  omega

theorem quintuple_opcode_x {x y z : Nat} (hx : x < 4) (hy : y < 8) (hz : z < 8) : (quintuple (opcode x y z)).x = x := by
  rw [quintuple_x, toNat_opcode hx hy hz]
  omega

theorem quintuple_opcode_y {x y z : Nat} (hx : x < 4) (hy : y < 8) (hz : z < 8) : (quintuple (opcode x y z)).y = y := by
  rw [quintuple_y, toNat_opcode hx hy hz]
  omega

theorem quintuple_opcode_z {x y z : Nat} (hx : x < 4) (hy : y < 8) (hz : z < 8) : (quintuple (opcode x y z)).z = z := by
  rw [quintuple_z, toNat_opcode hx hy hz]
  omega

theorem codeReg8_lt (r : Reg8) : codeReg8 r < 8 := by cases r <;> decide

/-- 30 R112: selector 6 is the memory operand, no register. -/
theorem codeReg8_ne_six (r : Reg8) : codeReg8 r ≠ 6 := by cases r <;> decide

/-! ## Opcode bytes without an arm after 0xDD (30 R124, R128) -/

/-- A byte that is no key of the index table has no arm there. -/
theorem armOf_index_undefined {op : Byte} (h : ∀ cell ∈ indexTable, op ≠ cell.1) : armOf .index op = .undefined := by
  have hnone : indexTable.lookup op = none := List.lookup_eq_none_iff.mpr fun cell hcell => by simpa using h cell hcell
  rw [armOf, hnone, Option.getD_none]

/-- 30 R124: with `x = 1` the index table holds the loads and stores that have the memory operand on one side. -/
theorem indexTable_load8 : ∀ cell ∈ indexTable,
    (quintuple cell.1).x = 1 → (quintuple cell.1).y = 6 ∨ (quintuple cell.1).z = 6 := by decide

/-- 30 R124: with `x = 0` and `z = 6` the index table holds the store of an immediate to the memory operand only. -/
theorem indexTable_loadImm : ∀ cell ∈ indexTable,
    (quintuple cell.1).x = 0 → (quintuple cell.1).z = 6 → (quintuple cell.1).y = 6 := by decide

/-- A load between two registers names no memory operand, so it has no index-prefixed form (42 R210). -/
theorem armOf_index_load8_reg (r r' : Reg8) :
    armOf .index (opcode 1 (codeReg8 r) (codeReg8 r')) = .undefined := by
  have hy : codeReg8 r < 8 := codeReg8_lt r
  have hz : codeReg8 r' < 8 := codeReg8_lt r'
  refine armOf_index_undefined fun cell hcell hop => ?_
  have hmem := indexTable_load8 cell hcell (hop ▸ quintuple_opcode_x (by decide) hy hz)
  rw [← hop, quintuple_opcode_y (by decide) hy hz, quintuple_opcode_z (by decide) hy hz] at hmem
  exact hmem.elim (codeReg8_ne_six r) (codeReg8_ne_six r')

/-- The load of an immediate to a register has no index-prefixed form (42 R212). -/
theorem armOf_index_loadImm_reg (r : Reg8) : armOf .index (opcode 0 (codeReg8 r) 6) = .undefined := by
  have hy : codeReg8 r < 8 := codeReg8_lt r
  refine armOf_index_undefined fun cell hcell hop => ?_
  have hmem := indexTable_loadImm cell hcell (hop ▸ quintuple_opcode_x (by decide) hy (by decide))
    (hop ▸ quintuple_opcode_z (by decide) hy (by decide))
  rw [← hop, quintuple_opcode_y (by decide) hy (by decide)] at hmem
  exact codeReg8_ne_six r hmem

/-! ## The encodings of the loads, the stores and the stack (30 R112 to R114) -/

theorem decodesTo_load8 (r : Reg8) (l : Loc) : decodesTo (bytesByZ 1 (codeReg8 r) l) (Form.load8 r l) := by
  cases l with
  | reg r' =>
    have harm : armOf .none (opcode 1 (codeReg8 r) (codeReg8 r')) = .op (Form.load8 r (.reg r')) := by
      cases r <;> cases r' <;> rfl
    exact decodesTo_of_main harm (takesOperands_op _) (by cases r <;> cases r' <;> rfl)
  | atHL =>
    have harm : armOf .none (opcode 1 (codeReg8 r) 6) = .op (Form.load8 r .atHL) := by cases r <;> rfl
    exact decodesTo_of_main harm (takesOperands_op _) (by cases r <;> rfl)
  | atIX d =>
    have harm : armOf .index (opcode 1 (codeReg8 r) 6) = .disp fun d => Form.load8 r (.atIX d) := by cases r <;> rfl
    exact decodesTo_of_index harm (takesOperands_disp _ d) (by cases r <;> rfl)

theorem decodesTo_storeHL (r : Reg8) : decodesTo [opcode 1 6 (codeReg8 r)] (Form.storeHL r) := by
  have harm : armOf .none (opcode 1 6 (codeReg8 r)) = .op (Form.storeHL r) := by cases r <;> rfl
  exact decodesTo_of_main harm (takesOperands_op _) (by cases r <;> rfl)

theorem decodesTo_storeIX (r : Reg8) (d : Byte) :
    decodesTo [0xDD, opcode 1 6 (codeReg8 r), d] (Form.storeIX d r) := by
  have harm : armOf .index (opcode 1 6 (codeReg8 r)) = .disp fun d => Form.storeIX d r := by cases r <;> rfl
  exact decodesTo_of_index harm (takesOperands_disp _ d) (by cases r <;> rfl)

theorem decodesTo_loadImm (l : Loc) (n : Byte) : decodesTo (bytesByY 0 6 l ++ [n]) (Form.loadImm n l) := by
  cases l with
  | reg r =>
    have harm : armOf .none (opcode 0 (codeReg8 r) 6) = .byte fun n => Form.loadImm n (.reg r) := by cases r <;> rfl
    exact decodesTo_of_main harm (takesOperands_byte _ n) (by cases r <;> rfl)
  | atHL => exact decodesTo_of_main (op := opcode 0 6 6) rfl (takesOperands_byte .ldAtHL_n n) rfl
  | atIX d => exact decodesTo_of_index (op := opcode 0 6 6) rfl (takesOperands_dispByte .ldIXd_n d n) rfl

theorem decodesTo_loadPair (r : Reg16) (nn : Word) :
    decodesTo (bytesOfPair 0 1 (wordBytes nn) r) (Form.loadPair nn r) := by
  cases r with
  | bc => exact decodesTo_of_main rfl (takesOperands_word .ldBC_nn nn) rfl
  | de => exact decodesTo_of_main rfl (takesOperands_word .ldDE_nn nn) rfl
  | hl => exact decodesTo_of_main rfl (takesOperands_word .ldHL_nn nn) rfl
  | sp => exact decodesTo_of_main rfl (takesOperands_word .ldSP_nn nn) rfl
  | ix => exact decodesTo_of_index rfl (takesOperands_word .ldIX_nn nn) rfl

theorem decodesTo_loadSP (x : HLX) : decodesTo (bytesOfHLX 0xF9 [] x) (Form.loadSP x) := by
  cases x with
  | hl => exact decodesTo_of_main rfl (takesOperands_op .ldSP_HL) rfl
  | ix => exact decodesTo_of_index rfl (takesOperands_op .ldSP_IX) rfl

theorem decodesTo_loadMem16 (x : HLX) (nn : Word) :
    decodesTo (bytesOfHLX 0x2A (wordBytes nn) x) (Form.loadMem16 nn x) := by
  cases x with
  | hl => exact decodesTo_of_main rfl (takesOperands_word .ldHL_mem nn) rfl
  | ix => exact decodesTo_of_index rfl (takesOperands_word .ldIX_mem nn) rfl

theorem decodesTo_storeMem16 (x : HLX) (nn : Word) :
    decodesTo (bytesOfHLX 0x22 (wordBytes nn) x) (Form.storeMem16 nn x) := by
  cases x with
  | hl => exact decodesTo_of_main rfl (takesOperands_word .ldMem_HL nn) rfl
  | ix => exact decodesTo_of_index rfl (takesOperands_word .ldMem_IX nn) rfl

theorem decodesTo_push (r : StackReg) : decodesTo (bytesOfStack 5 r) (Form.push r) := by
  cases r with
  | bc => exact decodesTo_of_main rfl (takesOperands_op .pushBC) rfl
  | de => exact decodesTo_of_main rfl (takesOperands_op .pushDE) rfl
  | hl => exact decodesTo_of_main rfl (takesOperands_op .pushHL) rfl
  | af => exact decodesTo_of_main rfl (takesOperands_op .pushAF) rfl
  | ix => exact decodesTo_of_index rfl (takesOperands_op .pushIX) rfl

theorem decodesTo_pop (r : StackReg) : decodesTo (bytesOfStack 1 r) (Form.pop r) := by
  cases r with
  | bc => exact decodesTo_of_main rfl (takesOperands_op .popBC) rfl
  | de => exact decodesTo_of_main rfl (takesOperands_op .popDE) rfl
  | hl => exact decodesTo_of_main rfl (takesOperands_op .popHL) rfl
  | af => exact decodesTo_of_main rfl (takesOperands_op .popAF) rfl
  | ix => exact decodesTo_of_index rfl (takesOperands_op .popIX) rfl

end Sys2Proof.Machine
end

section
/-! PROOFS. The loads, the stores, the stack and the exchanges of 42: each family by its encoding, how it can fault, and
what it answers on the REF bus. -/

namespace Sys2Proof.Machine

/-! ## How an instruction can fault (60 R372) -/

/-- An instruction that is a clean operation and its cost faults only as the operation does. -/
theorem onlyConfigurationError_of_clean {i : Instr} {r : State → Res Unit} {cost : Nat}
    (hexec : ∀ s, exec i s = (r s).finish cost) (hclean : ∀ s, (r s).Clean s.cycles) : onlyConfigurationError i :=
  fun s _ hfault => Res.finish_fault_clean (hclean s) ((hexec s).symm.trans hfault)

/-- A clean read whose answer a register takes is clean. -/
theorem Res.clean_bind_update {α : Type} {r : Res α} {n : Nat} {update : State → α → State} (hr : r.Clean n)
    (hupdate : ∀ t a, (update t a).cycles = t.cycles) : (r.bind fun a t => .ok () (update t a)).Clean n :=
  Res.clean_bind hr fun a t ht => Res.clean_ok () ((hupdate t a).trans ht)

/-! ## 8-bit loads and stores (42 R210 to R212) -/

theorem onlyConfigurationError_load8 (r : Reg8) (l : Loc) : onlyConfigurationError (Form.load8 r l) :=
  onlyConfigurationError_of_clean (exec_load8 r l) fun _ =>
    Res.clean_bind_update (readLoc_clean rfl) fun t v => State.write8_cycles t r v

theorem onlyConfigurationError_storeHL (r : Reg8) : onlyConfigurationError (Form.storeHL r) :=
  onlyConfigurationError_of_clean (exec_storeHL r) fun _ => writeLoc_clean rfl

theorem onlyConfigurationError_storeIX (r : Reg8) (d : Byte) : onlyConfigurationError (Form.storeIX d r) :=
  onlyConfigurationError_of_clean (exec_storeIX r d) fun _ => writeLoc_clean rfl

theorem onlyConfigurationError_loadImm (l : Loc) (n : Byte) : onlyConfigurationError (Form.loadImm n l) :=
  onlyConfigurationError_of_clean (exec_loadImm l n) fun _ => writeLoc_clean rfl

/-- Settles O20: a register operand makes no transaction, so its load needs no REF bus; the others are the family's
operation on the REF bus. -/
theorem loadStoreRegister : Obligations.LoadStoreRegister := by
  refine ⟨fun r r' => ⟨armOf_index_load8_reg r r', exec_load8 r (.reg r')⟩, fun r l => ?load, fun r d => ?store⟩
  case load =>
    refine ⟨decodesTo_load8 r l, onlyConfigurationError_load8 r l, fun s href => ?_⟩
    exact (exec_load8 r l s).trans (load8_ref href r l _)
  case store =>
    refine ⟨decodesTo_storeHL r, onlyConfigurationError_storeHL r, decodesTo_storeIX r d,
      onlyConfigurationError_storeIX r d, fun s href => ⟨?_, ?_⟩⟩
    · exact (exec_storeHL r s).trans (store8_ref href r .atHL 7)
    · exact (exec_storeIX r d s).trans (store8_ref href r (.atIX d) 19)

/-- Settles O21: the operand forms of one operation, and no key of the index table for the register forms. -/
theorem loadImmediate : Obligations.LoadImmediate := by
  refine ⟨armOf_index_loadImm_reg, fun l n => ⟨decodesTo_loadImm l n, onlyConfigurationError_loadImm l n, ?_⟩⟩
  intro s href
  exact (exec_loadImm l n s).trans (loadImm_ref href l n _)

/-! ## The accumulator (42 R215 to R218) -/

theorem loadAPair_ref {s : State} (h : s.onRefBus) (p : Reg16) (n : Nat) :
    loadAPair p n s = .next (((s.afterRead (s.read16 p) .data).writeA (s.byteAt (s.read16 p))).addCycles n) := by
  rw [loadAPair, memRead_ref h, Res.bind_ok, Res.finish_ok]

theorem storeAPair_ref {s : State} (h : s.onRefBus) (p : Reg16) (n : Nat) :
    storeAPair p n s = .next ((s.afterWrite (s.read16 p) s.readA .data).addCycles n) := by
  rw [storeAPair, memWrite_ref h, Res.finish_ok]

theorem loadAMem_ref {s : State} (h : s.onRefBus) (nn : Word) (n : Nat) :
    loadAMem nn n s = .next ((((s.writeLatch nn).afterRead nn .data).writeA (s.byteAt nn)).addCycles n) := by
  rw [loadAMem, memRead_ref (ref_writeLatch h nn), Res.bind_ok, Res.finish_ok, byteAt_writeLatch]

theorem storeAMem_ref {s : State} (h : s.onRefBus) (nn : Word) (n : Nat) :
    storeAMem nn n s = .next (((s.writeLatch nn).afterWrite nn s.readA .data).addCycles n) := by
  rw [storeAMem, memWrite_ref (ref_writeLatch h nn), Res.finish_ok]

/-- The four operations fault only in their one transaction, before any register but `LATCH` is written. -/
theorem onlyConfigurationError_accumulator (nn : Word) (i : Instr)
    (hi : i ∈ [.ldA_atBC, .ldA_atDE, .ldAtBC_A, .ldAtDE_A, .ldA_mem nn, .ldMem_A nn]) : onlyConfigurationError i := by
  have hloadPair (p : Reg16) (s : State) :
      ((memRead (s.read16 p) .data s).bind fun v t => .ok () (t.writeA v)).Clean s.cycles :=
    Res.clean_bind_update (memRead_clean rfl) State.writeA_cycles
  have hloadMem (s : State) :
      ((memRead nn .data (s.writeLatch nn)).bind fun v t => .ok () (t.writeA v)).Clean s.cycles :=
    Res.clean_bind_update (memRead_clean (State.writeLatch_cycles s nn)) State.writeA_cycles
  simp only [List.mem_cons, List.not_mem_nil, or_false] at hi
  rcases hi with rfl | rfl | rfl | rfl | rfl | rfl
  · exact onlyConfigurationError_of_clean (i := .ldA_atBC) (fun _ => rfl) (hloadPair .bc)
  · exact onlyConfigurationError_of_clean (i := .ldA_atDE) (fun _ => rfl) (hloadPair .de)
  · exact onlyConfigurationError_of_clean (i := .ldAtBC_A) (fun _ => rfl) fun _ => memWrite_clean rfl
  · exact onlyConfigurationError_of_clean (i := .ldAtDE_A) (fun _ => rfl) fun _ => memWrite_clean rfl
  · exact onlyConfigurationError_of_clean (i := .ldA_mem nn) (fun _ => rfl) hloadMem
  · exact onlyConfigurationError_of_clean (i := .ldMem_A nn) (fun _ => rfl) fun s =>
      memWrite_clean (State.writeLatch_cycles s nn)

/-- Settles O22: two operations through a pair and two through `nn`; the latter write `LATCH` before the transaction. -/
theorem loadStoreAccumulator : Obligations.LoadStoreAccumulator := by
  have hkeys : ∀ op ∈ [0x0A, 0x1A, 0x02, 0x12, 0x3A, (0x32 : Byte)], ∀ cell ∈ indexTable, op ≠ cell.1 := by decide
  refine ⟨fun op hop => armOf_index_undefined (hkeys op hop), fun nn => ⟨?_, ?_, ?_, ?_, ?_, ?_,
    onlyConfigurationError_accumulator nn, fun s href => ⟨loadAPair_ref href .bc 7, loadAPair_ref href .de 7,
      storeAPair_ref href .bc 7, storeAPair_ref href .de 7, loadAMem_ref href nn 13, storeAMem_ref href nn 13⟩⟩⟩
  · exact decodesTo_of_main rfl (takesOperands_op .ldA_atBC) rfl
  · exact decodesTo_of_main rfl (takesOperands_op .ldA_atDE) rfl
  · exact decodesTo_of_main rfl (takesOperands_op .ldAtBC_A) rfl
  · exact decodesTo_of_main rfl (takesOperands_op .ldAtDE_A) rfl
  · exact decodesTo_of_main rfl (takesOperands_word .ldA_mem nn) rfl
  · exact decodesTo_of_main rfl (takesOperands_word .ldMem_A nn) rfl

/-! ## 16-bit loads and stores (42 R220 to R224) -/

/-- Settles O23: the operations make no transaction, so they answer on any bus. (`loadPair` alone is the operation's
name.) -/
theorem LoadStore.loadPair : Obligations.LoadPair := by
  have hkeys : ∀ op ∈ [0x01, 0x11, (0x31 : Byte)], ∀ cell ∈ indexTable, op ≠ cell.1 := by decide
  exact ⟨fun op hop => armOf_index_undefined (hkeys op hop),
    fun r nn => ⟨decodesTo_loadPair r nn, exec_loadPair r nn⟩, fun x => ⟨decodesTo_loadSP x, exec_loadSP x⟩⟩

@[simp] theorem wordAt_writeLatch (s : State) (w a : Word) : (s.writeLatch w).wordAt a = s.wordAt a := rfl

theorem loadMem16_ref {s : State} (h : s.onRefBus) (x : HLX) (nn : Word) (n : Nat) :
    loadMem16 x nn n s =
      .next ((((s.writeLatch nn).afterRead16 nn).write16 (hlxReg x) (s.wordAt nn)).addCycles n) := by
  rw [loadMem16, memRead16_ref (ref_writeLatch h nn), Res.bind_ok, Res.finish_ok, wordAt_writeLatch]

theorem storeMem16_ref {s : State} (h : s.onRefBus) (x : HLX) (nn : Word) (n : Nat) :
    storeMem16 x nn n s = .next (((s.writeLatch nn).afterWrite16 nn (s.read16 (hlxReg x))).addCycles n) := by
  rw [storeMem16, memWrite16_ref (ref_writeLatch h nn), Res.finish_ok]

theorem onlyConfigurationError_loadMem16 (x : HLX) (nn : Word) : onlyConfigurationError (Form.loadMem16 nn x) :=
  onlyConfigurationError_of_clean (exec_loadMem16 x nn) fun s =>
    Res.clean_bind_update (memRead16_clean (State.writeLatch_cycles s nn)) fun t w =>
      State.write16_cycles t (hlxReg x) w

theorem onlyConfigurationError_storeMem16 (x : HLX) (nn : Word) : onlyConfigurationError (Form.storeMem16 nn x) :=
  onlyConfigurationError_of_clean (exec_storeMem16 x nn) fun s => memWrite16_clean (State.writeLatch_cycles s nn)

/-- Settles O24: a word access at `nn`, with `LATCH` written before it. -/
theorem loadStoreWord : Obligations.LoadStoreWord := by
  intro x nn
  refine ⟨decodesTo_loadMem16 x nn, onlyConfigurationError_loadMem16 x nn, decodesTo_storeMem16 x nn,
    onlyConfigurationError_storeMem16 x nn, fun s href => ⟨?_, ?_⟩⟩
  · exact (exec_loadMem16 x nn s).trans (loadMem16_ref href x nn _)
  · exact (exec_storeMem16 x nn s).trans (storeMem16_ref href x nn _)

/-! ## The stack (42 R230, R231) -/

theorem onlyConfigurationError_push (r : StackReg) : onlyConfigurationError (Form.push r) :=
  onlyConfigurationError_of_clean (exec_push r) fun _ => push16_clean rfl

theorem onlyConfigurationError_pop (r : StackReg) : onlyConfigurationError (Form.pop r) :=
  onlyConfigurationError_of_clean (exec_pop r) fun _ =>
    Res.clean_bind_update (pop16_clean rfl) fun t w => State.writeStackReg_cycles t r w

/-- Settles O25, from where a push puts the halves of its word and what the halves of `AF` are as pushed. -/
theorem pushPair : Obligations.PushPair := by
  have hkeys : ∀ op ∈ [0xC5, 0xD5, (0xF5 : Byte)], ∀ cell ∈ indexTable, op ≠ cell.1 := by decide
  refine ⟨fun op hop => armOf_index_undefined (hkeys op hop),
    fun r => ⟨decodesTo_push r, onlyConfigurationError_push r, fun s href => ?effect⟩⟩
  case effect =>
    have hhigh : ((s.afterPush (s.readStackReg r)).addCycles (costStack 11 15 r)).byteAt (s.sp - 1) =
        hiByte (s.readStackReg r) := by
      rw [byteAt_addCycles, byteAt_afterPush_high]
    have hlow : ((s.afterPush (s.readStackReg r)).addCycles (costStack 11 15 r)).byteAt (s.sp - 2) =
        loByte (s.readStackReg r) := by
      rw [byteAt_addCycles, byteAt_afterPush_low]
    refine ⟨_, (exec_push r s).trans (pushReg_ref href r _), rfl, ?sp, hhigh, hlow, ?trace, ?af⟩
    case sp => rw [State.addCycles_sp, afterPush_sp]
    case trace => rw [State.addCycles_trace, trace_afterPush]
    case af =>
      rintro rfl
      exact ⟨hhigh.trans s.hiByte_readStackReg_af, hlow.trans s.loByte_readStackReg_af⟩

/-- 00 R10: the value of a concatenation. -/
theorem toNat_joinBytes (h l : Byte) : (joinBytes h l).toNat = 256 * h.toNat + l.toNat := by
  have hl : l.toNat < 2 ^ 8 := l.isLt
  rw [joinBytes, BitVec.toNat_append, ← Nat.shiftLeft_add_eq_or_of_lt hl, Nat.shiftLeft_eq]
  omega

/-- Only `POP AF` writes `A` and the flags. -/
theorem State.writeStackReg_af_of_ne (s : State) {r : StackReg} (h : r ≠ .af) (w : Word) :
    (s.writeStackReg r w).af = s.af := by
  cases r with
  | af => exact absurd rfl h
  | _ => rfl

/-- Settles O26: the word popped is the two bytes at `SP`, and for `AF` its halves are `A` and the stored flags. -/
theorem popPair : Obligations.PopPair := by
  refine fun r => ⟨decodesTo_pop r, onlyConfigurationError_pop r, fun s href => ?effect⟩
  case effect =>
    refine ⟨_, (exec_pop r s).trans (popReg_ref href r _), rfl, ?sp, fun a => ?memory, ?af, ?other,
      toNat_joinBytes (s.byteAt (s.sp + 1)) (s.byteAt s.sp)⟩
    case sp => rw [State.addCycles_sp, State.writeStackReg_sp, afterPop_sp]
    case memory => rw [byteAt_addCycles, byteAt_writeStackReg, byteAt_afterPop]
    case other =>
      intro hr
      rw [State.addCycles_af, State.writeStackReg_af_of_ne _ hr, State.afterPop_af]
    case af =>
      rintro rfl
      have hhigh : hiByte s.stackTop = s.byteAt (s.sp + 1) := hiByte_joinBytes _ _
      have hlow : loByte s.stackTop = s.byteAt s.sp := loByte_joinBytes _ _
      exact ⟨hhigh, hlow, (congrArg normFlags hlow).trans (normFlags_eq (s.byteAt s.sp))⟩

/-! ## The exchanges (42 R236, R237) -/

theorem exec_exAF (s : State) : exec .exAF s = .next (s.exchangeAF.addCycles 4) := rfl

theorem exec_exx (s : State) : exec .exx s = .next (s.exchangeBank.addCycles 4) := rfl

/-- The second exchange undoes the first, whatever cost was added between. -/
theorem exchangeAF_addCycles_exchangeAF (s : State) (n : Nat) :
    (s.exchangeAF.addCycles n).exchangeAF = s.addCycles n := rfl

theorem exchangeBank_addCycles_exchangeBank (s : State) (n : Nat) :
    (s.exchangeBank.addCycles n).exchangeBank = s.addCycles n := rfl

theorem addCycles_addCycles (s : State) (m n : Nat) : (s.addCycles m).addCycles n = s.addCycles (m + n) :=
  congrArg (fun c => { s with cycles := c }) (Nat.add_assoc s.cycles m n)

/-- Settles O27: an exchange undoes itself, and the costs of the two add up. -/
theorem bankSwitch : Obligations.BankSwitch := by
  refine ⟨decodesTo_of_main rfl (takesOperands_op .exAF) rfl, decodesTo_of_main rfl (takesOperands_op .exx) rfl,
    armOf_index_undefined (by decide), fun s => ⟨exec_exAF s, exec_exx s, fun t ht => ?af, fun t ht => ?bank⟩⟩
  case af =>
    obtain rfl : s.exchangeAF.addCycles 4 = t := by rw [exec_exAF] at ht; exact Host.Outcome.next.inj ht
    rw [exec_exAF, exchangeAF_addCycles_exchangeAF, addCycles_addCycles, State.addCycles]
  case bank =>
    obtain rfl : s.exchangeBank.addCycles 4 = t := by rw [exec_exx] at ht; exact Host.Outcome.next.inj ht
    rw [exec_exx, exchangeBank_addCycles_exchangeBank, addCycles_addCycles, State.addCycles]

end Sys2Proof.Machine
end

section
/-! PROOFS. The flag algebra (40) bit by bit, and what its flags say of the result as arithmetic on numbers: the half
carry (40 R144 to R148), the overflow (R149, R150), the parity (R143). -/

namespace Sys2Proof.Machine

/-! ## The named bits of a flags byte (10 R30, R31; 40 R140 to R142) -/

/-- 40 R140: a mask of one bit names that bit and no other. -/
theorem getLsbD_setFlag (f : Byte) {j : Nat} (hj : j < 8) (cond : Bool) (k : Nat) :
    (setFlag f (BitVec.twoPow 8 j) cond).getLsbD k = if k = j then cond else f.getLsbD k := by
  by_cases hk : k = j
  · subst hk
    cases cond <;> simp [setFlag, hj]
  · have hother : (BitVec.twoPow 8 j).getLsbD k = false := by simp [Ne.symm hk]
    cases cond with
    | true => simp [setFlag, hother, hk]
    | false => simpa [setFlag, hother, hk] using BitVec.lt_of_getLsbD

theorem getLsbD_setFlag_maskS (f : Byte) (cond : Bool) (k : Nat) :
    (setFlag f maskS cond).getLsbD k = if k = 7 then cond else f.getLsbD k :=
  getLsbD_setFlag f (j := 7) (by decide) cond k

theorem getLsbD_setFlag_maskZ (f : Byte) (cond : Bool) (k : Nat) :
    (setFlag f maskZ cond).getLsbD k = if k = 6 then cond else f.getLsbD k :=
  getLsbD_setFlag f (j := 6) (by decide) cond k

theorem getLsbD_setFlag_maskH (f : Byte) (cond : Bool) (k : Nat) :
    (setFlag f maskH cond).getLsbD k = if k = 4 then cond else f.getLsbD k :=
  getLsbD_setFlag f (j := 4) (by decide) cond k

theorem getLsbD_setFlag_maskPV (f : Byte) (cond : Bool) (k : Nat) :
    (setFlag f maskPV cond).getLsbD k = if k = 2 then cond else f.getLsbD k :=
  getLsbD_setFlag f (j := 2) (by decide) cond k

theorem getLsbD_setFlag_maskC (f : Byte) (cond : Bool) (k : Nat) :
    (setFlag f maskC cond).getLsbD k = if k = 0 then cond else f.getLsbD k :=
  getLsbD_setFlag f (j := 0) (by decide) cond k

/-- 10 R31: a read of `F` forces the three reserved bits and shows the others as stored. -/
theorem getLsbD_normFlags (raw : Byte) (k : Nat) : (normFlags raw).getLsbD k =
    if k = 5 then false else if k = 3 then false else if k = 1 then true else raw.getLsbD k := by
  have hsteps : normFlags raw =
      setFlag (setFlag (setFlag raw (BitVec.twoPow 8 1) true) (BitVec.twoPow 8 3) false) (BitVec.twoPow 8 5) false :=
    (BitVec.and_assoc (raw ||| 0x02) (~~~0x08) (~~~0x20)).symm
  rw [hsteps, getLsbD_setFlag _ (by decide), getLsbD_setFlag _ (by decide), getLsbD_setFlag _ (by decide)]

/-- 40 R151, with no mirroring in REF: `S` and `Z` from the result, the other flags kept. -/
theorem getLsbD_adjustSz (f r : Byte) (k : Nat) :
    (adjustSz f r).getLsbD k = if k = 6 then decide (r = 0) else if k = 7 then r.getLsbD 7 else f.getLsbD k :=
  (getLsbD_setFlag_maskZ (adjustSign f r) _ k).trans (by rw [adjustSign, getLsbD_setFlag_maskS])

/-! ## Bytes as numbers -/

theorem getLsbD_iff_div_mod (b : Byte) (k : Nat) : b.getLsbD k = true ↔ b.toNat / 2 ^ k % 2 = 1 := by
  rw [← BitVec.testBit_toNat, Nat.testBit_eq_decide_div_mod_eq, decide_eq_true_iff]

/-- The sign bit. -/
theorem getLsbD_seven_iff (b : Byte) : b.getLsbD 7 = true ↔ 128 ≤ b.toNat := by
  have hb : b.toNat < 256 := b.isLt
  rw [getLsbD_iff_div_mod]
  omega

/-- The highest bit of the low nibble. -/
theorem getLsbD_three_iff (b : Byte) : b.getLsbD 3 = true ↔ 8 ≤ b.toNat % 16 := by
  rw [getLsbD_iff_div_mod]
  omega

/-! ## The half carry (40 R144, R145) -/

/-- 40 R144: the index is made of bit 3 of the two operands and of the result. -/
theorem halfCarryIndex_eq (a v r : Byte) : halfCarryIndex a v r =
    4 * (a.getLsbD 3).toNat + 2 * (v.getLsbD 3).toNat + (r.getLsbD 3).toNat := by
  have ha : (a &&& 0x88) >>> 1 &&& 7 = if a.getLsbD 3 then 4 else 0 := by revert a; decide
  have hv : (v &&& 0x88) >>> 2 &&& 7 = if v.getLsbD 3 then 2 else 0 := by revert v; decide
  have hr : (r &&& 0x88) >>> 3 &&& 7 = if r.getLsbD 3 then 1 else 0 := by revert r; decide
  rw [halfCarryIndex, BitVec.and_or_distrib_right, BitVec.and_or_distrib_right, ha, hv, hr]
  cases a.getLsbD 3 <;> cases v.getLsbD 3 <;> cases r.getLsbD 3 <;> rfl

/-- 40 R145: a carry leaves bit 3 where both operands have it, or one of them and the result has not. -/
theorem hcAdd_eq_majority (a v r : Byte) : hcAdd.getD (halfCarryIndex a v r) false =
    Bool.atLeastTwo (a.getLsbD 3) (v.getLsbD 3) (!r.getLsbD 3) := by
  rw [halfCarryIndex_eq]
  cases a.getLsbD 3 <;> cases v.getLsbD 3 <;> cases r.getLsbD 3 <;> rfl

/-- 40 R145: a borrow passes bit 3 where two of these hold: the left operand has it not, the right one has it, the
result has it. -/
theorem hcSub_eq_majority (a v r : Byte) : hcSub.getD (halfCarryIndex a v r) false =
    Bool.atLeastTwo (!a.getLsbD 3) (v.getLsbD 3) (r.getLsbD 3) := by
  rw [halfCarryIndex_eq]
  cases a.getLsbD 3 <;> cases v.getLsbD 3 <;> cases r.getLsbD 3 <;> rfl

/-- 40 R148: the table of additions is nibble arithmetic. -/
theorem hcAdd_iff {a v r : Byte} {c : Nat} (hc : c ≤ 1) (hr : r.toNat = (a.toNat + v.toNat + c) % 256) :
    hcAdd.getD (halfCarryIndex a v r) false = true ↔ a.toNat % 16 + v.toNat % 16 + c > 15 := by
  have hnibble : r.toNat % 16 = (a.toNat % 16 + v.toNat % 16 + c) % 16 := by omega
  simp only [hcAdd_eq_majority, Bool.atLeastTwo, Bool.or_eq_true, Bool.and_eq_true, Bool.not_eq_true',
    ← Bool.not_eq_true, getLsbD_three_iff, hnibble]
  omega

/-- 40 R148: the table of subtractions is nibble arithmetic. -/
theorem hcSub_iff {a v r : Byte} {c : Nat} (hc : c ≤ 1)
    (hr : (r.toNat : Int) = ((a.toNat : Int) - v.toNat - c) % 256) :
    hcSub.getD (halfCarryIndex a v r) false = true ↔ a.toNat % 16 < v.toNat % 16 + c := by
  have hnibble : r.toNat % 16 = (a.toNat % 16 + 32 - v.toNat % 16 - c) % 16 := by omega
  simp only [hcSub_eq_majority, Bool.atLeastTwo, Bool.or_eq_true, Bool.and_eq_true, Bool.not_eq_true',
    ← Bool.not_eq_true, getLsbD_three_iff, hnibble]
  omega

/-! ## The overflow (40 R149, R150) -/

theorem decide_and_0x80_ne_zero (b : Byte) : decide (b &&& 0x80 ≠ 0) = b.getLsbD 7 := flag_maskS b

theorem getLsbD_xor_iff (a b : Byte) (k : Nat) :
    (a ^^^ b).getLsbD k = true ↔ ¬(a.getLsbD k = true ↔ b.getLsbD k = true) := by
  rw [BitVec.getLsbD_xor, Bool.coe_iff_coe, bne_iff_ne]

/-- 40 R149: the result has neither operand's sign exactly where the signed sum is out of range. -/
theorem addOverflow_iff {a v r : Byte} {c : Nat} (hc : c ≤ 1) (hr : r.toNat = (a.toNat + v.toNat + c) % 256) :
    ((a ^^^ r) &&& (v ^^^ r)).getLsbD 7 = true ↔ a.toInt + v.toInt + c < -128 ∨ 127 < a.toInt + v.toInt + c := by
  have ha : a.toNat < 256 := a.isLt
  have hv : v.toNat < 256 := v.isLt
  rw [BitVec.getLsbD_and, Bool.and_eq_true, getLsbD_xor_iff, getLsbD_xor_iff]
  simp only [BitVec.toInt_eq_toNat_cond, getLsbD_seven_iff, hr]
  split <;> split <;> omega

/-- 40 R150: the operands differ in sign, and the result has not the sign of `A`, exactly where the signed difference
is out of range. -/
theorem subOverflow_iff {a v r : Byte} {c : Nat} (hc : c ≤ 1)
    (hr : (r.toNat : Int) = ((a.toNat : Int) - v.toNat - c) % 256) :
    ((a ^^^ v) &&& (a ^^^ r)).getLsbD 7 = true ↔ a.toInt - v.toInt - c < -128 ∨ 127 < a.toInt - v.toInt - c := by
  have ha : a.toNat < 256 := a.isLt
  have hv : v.toNat < 256 := v.isLt
  rw [BitVec.getLsbD_and, Bool.and_eq_true, getLsbD_xor_iff, getLsbD_xor_iff]
  simp only [BitVec.toInt_eq_toNat_cond, getLsbD_seven_iff]
  split <;> split <;> omega

/-! ## The parity (40 R143) -/

/-- The bits selected from a list are even in number exactly where their exclusive or is 0. -/
theorem even_length_filter_iff (p : Nat → Bool) (l : List Nat) :
    (l.filter p).length % 2 = 0 ↔ l.foldr (fun k acc => p k ^^ acc) false = false := by
  induction l with
  | nil => simp
  | cons k l ih =>
    cases hk : p k with
    | false => simpa [hk] using ih
    | true =>
      have hodd : ((l.filter p).length + 1) % 2 = 0 ↔ ¬(l.filter p).length % 2 = 0 := by omega
      simp [hk, hodd, ih]

theorem evenParity_iff (v : Byte) :
    evenParity v = true ↔ ((List.range 8).filter fun k => v.getLsbD k).length % 2 = 0 := by
  rw [even_length_filter_iff]
  simp [evenParity, List.range, List.range.loop]

/-! ## The flags of a sum, a difference and a logical result (40 R155 to R157; 43 R262, R263) -/

/-- The flags both `alu_add` and the 8-bit increment compute from their operands and result, after `C`. -/
def addFlags (f a v r : Byte) : Byte := adjustSz (adjustOverflowAdd (adjustHalfCarryAdd f a v r) a v r) r

/-- The flags both `alu_sub` and the 8-bit decrement compute from their operands and result, after `C`. -/
def subFlags (f a v r : Byte) : Byte := adjustSz (adjustOverflowSub (adjustHalfCarrySub f a v r) a v r) r

theorem aluAdd_snd (f a v : Byte) (c : Bool) : (aluAdd f a v c).2 =
    addFlags (setFlag f maskC (decide (a.toNat + v.toNat + c.toNat > 255))) a v (aluAdd f a v c).1 := rfl

theorem incFlags_snd (f v : Byte) : (incFlags f v).2 = addFlags f v 1 (v + 1) := rfl

theorem aluSub_snd (f a v : Byte) (c : Bool) : (aluSub f a v c).2 =
    subFlags (setFlag f maskC (decide ((a.toNat : Int) - v.toNat - c.toNat < 0))) a v (aluSub f a v c).1 := rfl

theorem decFlags_snd (f v : Byte) : (decFlags f v).2 = subFlags f v 1 (v + 0xFF) := rfl

/-- Each flag of a sum; the bits that are no arithmetic flag are kept, and so is `C`. -/
theorem getLsbD_addFlags (f a v r : Byte) (k : Nat) : (addFlags f a v r).getLsbD k =
    if k = 6 then decide (r = 0) else if k = 7 then r.getLsbD 7 else
    if k = 2 then ((a ^^^ r) &&& (v ^^^ r)).getLsbD 7 else
    if k = 4 then hcAdd.getD (halfCarryIndex a v r) false else f.getLsbD k := by
  rw [addFlags, getLsbD_adjustSz, adjustOverflowAdd, decide_and_0x80_ne_zero, getLsbD_setFlag_maskPV,
    adjustHalfCarryAdd, getLsbD_setFlag_maskH]

/-- Each flag of a difference; the bits that are no arithmetic flag are kept, and so is `C`. -/
theorem getLsbD_subFlags (f a v r : Byte) (k : Nat) : (subFlags f a v r).getLsbD k =
    if k = 6 then decide (r = 0) else if k = 7 then r.getLsbD 7 else
    if k = 2 then ((a ^^^ v) &&& (a ^^^ r)).getLsbD 7 else
    if k = 4 then hcSub.getD (halfCarryIndex a v r) false else f.getLsbD k := by
  rw [subFlags, getLsbD_adjustSz, adjustOverflowSub, decide_and_0x80_ne_zero, getLsbD_setFlag_maskPV,
    adjustHalfCarrySub, getLsbD_setFlag_maskH]

/-- Each flag of a logical result (40 R157, R143). -/
theorem getLsbD_aluLogic (f r : Byte) (k : Nat) : (aluLogic f r).getLsbD k =
    if k = 2 then evenParity r else if k = 6 then decide (r = 0) else if k = 7 then r.getLsbD 7 else
    if k = 4 then false else if k = 0 then false else f.getLsbD k := by
  rw [aluLogic, adjustSzp, adjustParity, getLsbD_setFlag_maskPV, getLsbD_adjustSz, getLsbD_setFlag_maskH,
    getLsbD_setFlag_maskC]

theorem decide_eq_zero_iff (r : Byte) : decide (r = 0) = true ↔ r.toNat = 0 := by
  rw [decide_eq_true_iff, BitVec.toNat_eq]
  rfl

/-- 40 R155: the flags of a sum as arithmetic on the operands, in the order `S`, `Z`, `H`, `PV`, `C`. -/
theorem addFlags_arithmetic (f : Byte) {a v r : Byte} {c : Nat} (hc : c ≤ 1)
    (hr : r.toNat = (a.toNat + v.toNat + c) % 256) :
    ((addFlags f a v r).getLsbD 7 = true ↔ 128 ≤ (a.toNat + v.toNat + c) % 256) ∧
    ((addFlags f a v r).getLsbD 6 = true ↔ (a.toNat + v.toNat + c) % 256 = 0) ∧
    ((addFlags f a v r).getLsbD 4 = true ↔ a.toNat % 16 + v.toNat % 16 + c > 15) ∧
    ((addFlags f a v r).getLsbD 2 = true ↔ a.toInt + v.toInt + c < -128 ∨ 127 < a.toInt + v.toInt + c) ∧
    (addFlags f a v r).getLsbD 0 = f.getLsbD 0 := by
  simp only [getLsbD_addFlags]
  refine ⟨?sign, ?zero, hcAdd_iff hc hr, addOverflow_iff hc hr, rfl⟩
  case sign => exact hr ▸ getLsbD_seven_iff r
  case zero => exact hr ▸ decide_eq_zero_iff r

/-- 40 R156: the flags of a difference as arithmetic on the operands, in the order `S`, `Z`, `H`, `PV`, `C`. -/
theorem subFlags_arithmetic (f : Byte) {a v r : Byte} {c : Nat} (hc : c ≤ 1)
    (hr : (r.toNat : Int) = ((a.toNat : Int) - v.toNat - c) % 256) :
    ((subFlags f a v r).getLsbD 7 = true ↔ 128 ≤ ((a.toNat : Int) - v.toNat - c) % 256) ∧
    ((subFlags f a v r).getLsbD 6 = true ↔ ((a.toNat : Int) - v.toNat - c) % 256 = 0) ∧
    ((subFlags f a v r).getLsbD 4 = true ↔ a.toNat % 16 < v.toNat % 16 + c) ∧
    ((subFlags f a v r).getLsbD 2 = true ↔ a.toInt - v.toInt - c < -128 ∨ 127 < a.toInt - v.toInt - c) ∧
    (subFlags f a v r).getLsbD 0 = f.getLsbD 0 := by
  simp only [getLsbD_subFlags]
  refine ⟨?sign, ?zero, hcSub_iff hc hr, subOverflow_iff hc hr, rfl⟩
  case sign => exact (getLsbD_seven_iff r).trans (by omega)
  case zero => exact (decide_eq_zero_iff r).trans (by omega)

theorem aluAdd_toNat (f a v : Byte) (c : Bool) :
    (aluAdd f a v c).1.toNat = (a.toNat + v.toNat + c.toNat) % 256 := BitVec.toNat_ofNat _ _

theorem aluSub_toNat (f a v : Byte) (c : Bool) :
    ((aluSub f a v c).1.toNat : Int) = ((a.toNat : Int) - v.toNat - c.toNat) % 256 := by
  have hnonneg : 0 ≤ ((a.toNat : Int) - v.toNat - c.toNat) % 256 := Int.emod_nonneg _ (by decide)
  exact (congrArg Nat.cast (BitVec.toNat_ofInt _)).trans (Int.toNat_of_nonneg hnonneg)

theorem aluAdd_carry (f a v : Byte) (c : Bool) :
    (aluAdd f a v c).2.getLsbD 0 = true ↔ 255 < a.toNat + v.toNat + c.toNat := by
  rw [aluAdd_snd, getLsbD_addFlags]
  exact (Bool.coe_iff_coe.mpr (getLsbD_setFlag_maskC f _ 0)).trans decide_eq_true_iff

theorem aluSub_carry (f a v : Byte) (c : Bool) :
    (aluSub f a v c).2.getLsbD 0 = true ↔ (a.toNat : Int) - v.toNat - c.toNat < 0 := by
  rw [aluSub_snd, getLsbD_subFlags]
  exact (Bool.coe_iff_coe.mpr (getLsbD_setFlag_maskC f _ 0)).trans decide_eq_true_iff

end Sys2Proof.Machine
end

section
/-! PROOFS. The arithmetic and the logic of 43: each family by its encoding, how it can fault, and what it leaves in its
operand and in each flag. -/

namespace Sys2Proof.Machine

/-! ## The encodings (30 R112, R113, R117) -/

theorem decodesTo_alu {op : AluOp} {src : AluSrc} {i : Instr} (h : Form.alu op src = some i) :
    decodesTo (bytesOfAlu op src) i := by
  cases src with
  | imm n =>
    obtain ⟨f, harm, rfl, hwf⟩ :
        ∃ f, armOf .none (opcode 2 (codeAlu op) 1) = .byte f ∧ f n = i ∧ WellFormed i = true := by
      cases op <;> cases h <;> exact ⟨_, rfl, rfl, rfl⟩
    exact decodesTo_of_main harm (takesOperands_byte f n) hwf
  | loc l =>
    cases l with
    | reg r =>
      obtain ⟨harm, hwf⟩ : armOf .none (opcode 2 (codeAlu op) (codeReg8 r)) = .op i ∧ WellFormed i = true := by
        cases op <;> cases r <;> cases h <;> exact ⟨rfl, rfl⟩
      exact decodesTo_of_main harm (takesOperands_op i) hwf
    | atHL =>
      obtain ⟨harm, hwf⟩ : armOf .none (opcode 2 (codeAlu op) 6) = .op i ∧ WellFormed i = true := by
        cases op <;> cases h <;> exact ⟨rfl, rfl⟩
      exact decodesTo_of_main harm (takesOperands_op i) hwf
    | atIX d =>
      obtain ⟨f, harm, rfl, hwf⟩ :
          ∃ f, armOf .index (opcode 2 (codeAlu op) 6) = .disp f ∧ f d = i ∧ WellFormed i = true := by
        cases op <;> cases h <;> exact ⟨_, rfl, rfl, rfl⟩
      exact decodesTo_of_index harm (takesOperands_disp f d) hwf

theorem decodesTo_inc8 (l : Loc) : decodesTo (bytesByY 0 4 l) (Form.inc8 l) := by
  cases l with
  | reg r =>
    have harm : armOf .none (opcode 0 (codeReg8 r) 4) = .op (Form.inc8 (.reg r)) := by cases r <;> rfl
    exact decodesTo_of_main harm (takesOperands_op _) (by cases r <;> rfl)
  | atHL => exact decodesTo_of_main (op := opcode 0 6 4) rfl (takesOperands_op .incAtHL) rfl
  | atIX d => exact decodesTo_of_index (op := opcode 0 6 4) rfl (takesOperands_disp .incIXd d) rfl

theorem decodesTo_dec8 (l : Loc) : decodesTo (bytesByY 0 5 l) (Form.dec8 l) := by
  cases l with
  | reg r =>
    have harm : armOf .none (opcode 0 (codeReg8 r) 5) = .op (Form.dec8 (.reg r)) := by cases r <;> rfl
    exact decodesTo_of_main harm (takesOperands_op _) (by cases r <;> rfl)
  | atHL => exact decodesTo_of_main (op := opcode 0 6 5) rfl (takesOperands_op .decAtHL) rfl
  | atIX d => exact decodesTo_of_index (op := opcode 0 6 5) rfl (takesOperands_disp .decIXd d) rfl

theorem decodesTo_add16 (x : HLX) (p : Pair) :
    decodesTo (bytesOfHLX (opcode 0 (2 * codePair p + 1) 1) [] x) (Form.add16 x p) := by
  cases x with
  | hl =>
    have harm : armOf .none (opcode 0 (2 * codePair p + 1) 1) = .op (Form.add16 .hl p) := by cases p <;> rfl
    exact decodesTo_of_main harm (takesOperands_op _) (by cases p <;> rfl)
  | ix =>
    have harm : armOf .index (opcode 0 (2 * codePair p + 1) 1) = .op (Form.add16 .ix p) := by cases p <;> rfl
    exact decodesTo_of_index harm (takesOperands_op _) (by cases p <;> rfl)

theorem decodesTo_inc16 (r : Reg16) : decodesTo (bytesOfPair 0 3 [] r) (Form.inc16 r) := by
  cases r with
  | bc => exact decodesTo_of_main rfl (takesOperands_op .incBC) rfl
  | de => exact decodesTo_of_main rfl (takesOperands_op .incDE) rfl
  | hl => exact decodesTo_of_main rfl (takesOperands_op .incHL) rfl
  | sp => exact decodesTo_of_main rfl (takesOperands_op .incSP) rfl
  | ix => exact decodesTo_of_index rfl (takesOperands_op .incIX) rfl

theorem decodesTo_dec16 (r : Reg16) : decodesTo (bytesOfPair 1 3 [] r) (Form.dec16 r) := by
  cases r with
  | bc => exact decodesTo_of_main rfl (takesOperands_op .decBC) rfl
  | de => exact decodesTo_of_main rfl (takesOperands_op .decDE) rfl
  | hl => exact decodesTo_of_main rfl (takesOperands_op .decHL) rfl
  | sp => exact decodesTo_of_main rfl (takesOperands_op .decSP) rfl
  | ix => exact decodesTo_of_index rfl (takesOperands_op .decIX) rfl

/-! ## How an instruction can fault (60 R372) -/

theorem onlyConfigurationError_alu {op : AluOp} {src : AluSrc} {i : Instr} (h : Form.alu op src = some i) :
    onlyConfigurationError i :=
  onlyConfigurationError_of_clean (exec_alu h) fun _ =>
    Res.clean_bind_update (readSrc_clean rfl) fun _ _ => rfl

/-- Reading an operand, writing a byte back and then the flags is clean. -/
theorem modifyLoc_clean (l : Loc) (result : State → Byte → Byte × Byte) (s : State) :
    ((readLoc l s).bind fun v s1 =>
      (writeLoc l (result s1 v).1 s1).bind fun _ s2 => .ok () (s2.writeF (result s1 v).2)).Clean s.cycles :=
  Res.clean_bind (readLoc_clean rfl) fun _ _ ht =>
    Res.clean_bind_update (writeLoc_clean ht) fun t _ => State.writeF_cycles t _

theorem onlyConfigurationError_inc8 (l : Loc) : onlyConfigurationError (Form.inc8 l) :=
  onlyConfigurationError_of_clean (exec_inc8 l) (modifyLoc_clean l fun s v => incFlags s.readF v)

theorem onlyConfigurationError_dec8 (l : Loc) : onlyConfigurationError (Form.dec8 l) :=
  onlyConfigurationError_of_clean (exec_dec8 l) (modifyLoc_clean l fun s v => decFlags s.readF v)

/-! ## The accumulator operations (43 R250 to R257) -/

@[simp] theorem readA_writeA (s : State) (v : Byte) : (s.writeA v).readA = v := hiByte_joinBytes v (loByte s.af)

/-- What an accumulator operation leaves on the REF bus: `A`, the flags as a read masks them, the cost, and for the rest
what reading the operand leaves. -/
theorem exec_alu_ref {op : AluOp} {src : AluSrc} {i : Instr} (h : Form.alu op src = some i) {s : State}
    (href : s.onRefBus) :
    ∃ t, exec i s = .next t ∧ t = { (s.afterSrc src) with af := t.af, cycles := s.cycles + costAlu src } ∧
      t.readA = (aluResult op s.readF s.readA (s.valueSrc src)).1 ∧
      t.readF = normFlags (aluResult op s.readF s.readA (s.valueSrc src)).2 := by
  refine ⟨_, (exec_alu h s).trans (alu_ref href op src _), ?frame, ?a, ?flags⟩
  case frame =>
    cases src with
    | imm n => rfl
    | loc l => cases l <;> rfl
  case a => rw [readA_addCycles, readA_writeF, readA_writeA]
  case flags => rw [readF_addCycles, State.readF_writeF]

/-- 43 R250, R251: `ADD` and `ADC` are the one core, with the carry in of the rule. -/
theorem aluResult_of_add {op : AluOp} (hop : op = .add ∨ op = .adc) (f a v : Byte) :
    ∃ c : Bool, aluResult op f a v = aluAdd f a v c ∧ c.toNat = if op = .adc then (f.getLsbD 0).toNat else 0 := by
  rcases hop with rfl | rfl
  · exact ⟨false, rfl, rfl⟩
  · exact ⟨flag f maskC, rfl, congrArg Bool.toNat (flag_maskC f)⟩

/-- 43 R252, R253, R257: the flags of `SUB`, `SBC` and `CP` are of the one core, with the borrow in of the rule, and so
is the result, which `CP` discards. -/
theorem aluResult_of_sub {op : AluOp} (hop : op = .sub ∨ op = .sbc ∨ op = .cp) (f a v : Byte) :
    ∃ c : Bool, (aluResult op f a v).1 = (if op = .cp then a else (aluSub f a v c).1) ∧
      (aluResult op f a v).2 = (aluSub f a v c).2 ∧ c.toNat = if op = .sbc then (f.getLsbD 0).toNat else 0 := by
  rcases hop with rfl | rfl | rfl
  · exact ⟨false, rfl, rfl, rfl⟩
  · exact ⟨flag f maskC, rfl, rfl, congrArg Bool.toNat (flag_maskC f)⟩
  · exact ⟨false, rfl, rfl, rfl⟩

/-- Settles O17: the core `alu_add` with its carry in; the flags are those of the sum of two bytes and the carry. -/
theorem addArithmetic : Obligations.AddArithmetic := by
  intro op src i hop hform
  refine ⟨decodesTo_alu hform, onlyConfigurationError_alu hform, fun s href => ?effect⟩
  case effect =>
    dsimp only
    obtain ⟨t, hexec, hframe, hA, hF⟩ := exec_alu_ref hform href
    obtain ⟨c, hresult, hc⟩ := aluResult_of_add hop s.readF s.readA (s.valueSrc src)
    rw [hresult] at hA hF
    have hsum := aluAdd_toNat s.readF s.readA (s.valueSrc src) c
    have hcarry := aluAdd_carry s.readF s.readA (s.valueSrc src) c
    rw [aluAdd_snd] at hF hcarry
    obtain ⟨hS, hZ, hH, hPV, -⟩ := addFlags_arithmetic _ c.toNat_le hsum
    rw [← hc]
    refine ⟨t, hexec, hframe, hA ▸ hsum, ?_⟩
    rw [hF]
    simp only [getLsbD_normFlags]
    exact ⟨hS, hZ, hH, hPV, hcarry⟩

/-- Settles O18: the core `alu_sub` with its borrow in; `CP` takes its flags and not its result. -/
theorem subArithmetic : Obligations.SubArithmetic := by
  intro op src i hop hform
  refine ⟨decodesTo_alu hform, onlyConfigurationError_alu hform, fun s href => ?effect⟩
  case effect =>
    dsimp only
    obtain ⟨t, hexec, hframe, hA, hF⟩ := exec_alu_ref hform href
    obtain ⟨c, hresult, hflags, hc⟩ := aluResult_of_sub hop s.readF s.readA (s.valueSrc src)
    rw [hresult] at hA
    rw [hflags] at hF
    have hdiff := aluSub_toNat s.readF s.readA (s.valueSrc src) c
    have hborrow := aluSub_carry s.readF s.readA (s.valueSrc src) c
    rw [aluSub_snd] at hF hborrow
    obtain ⟨hS, hZ, hH, hPV, -⟩ := subFlags_arithmetic _ c.toNat_le hdiff
    rw [← hc]
    refine ⟨t, hexec, hframe, fun hcp => ?result, fun hcp => hA.trans (if_pos hcp), ?flags⟩
    case result => rw [hA, if_neg hcp, hdiff]
    case flags =>
      rw [hF]
      simp only [getLsbD_normFlags]
      exact ⟨hS, hZ, hH, hPV, hborrow⟩

/-- 43 R254 to R256: the three operations set the flags from their result alone. -/
theorem aluResult_of_logic {op : AluOp} (hop : op = .and ∨ op = .xor ∨ op = .or) (f a v : Byte) :
    (aluResult op f a v).2 = aluLogic f (aluResult op f a v).1 := by
  rcases hop with rfl | rfl | rfl <;> rfl

theorem getLsbD_aluResult_of_logic {op : AluOp} (hop : op = .and ∨ op = .xor ∨ op = .or) (f a v : Byte) (k : Nat) :
    (aluResult op f a v).1.getLsbD k =
      if op = .and then a.getLsbD k && v.getLsbD k
      else if op = .xor then a.getLsbD k ^^ v.getLsbD k else a.getLsbD k || v.getLsbD k := by
  rcases hop with rfl | rfl | rfl
  · exact BitVec.getLsbD_and
  · exact BitVec.getLsbD_xor
  · exact BitVec.getLsbD_or

/-- Settles O19: the result bit by bit, and the flags of `alu_logic` from it. -/
theorem logicArithmetic : Obligations.LogicArithmetic := by
  intro op src i hop hform
  refine ⟨decodesTo_alu hform, onlyConfigurationError_alu hform, fun s href => ?effect⟩
  case effect =>
    obtain ⟨t, hexec, hframe, hA, hF⟩ := exec_alu_ref hform href
    rw [aluResult_of_logic hop, ← hA] at hF
    refine ⟨t, hexec, hframe, fun k _ => ?bits, ?flags⟩
    case bits => rw [hA, getLsbD_aluResult_of_logic hop]
    case flags =>
      rw [hF]
      simp only [getLsbD_normFlags, getLsbD_aluLogic]
      exact ⟨rfl, decide_eq_zero_iff t.readA, evenParity_iff t.readA, rfl, rfl⟩

/-! ## The 8-bit increment and decrement (43 R262, R263) -/

theorem incFlags_toNat (f v : Byte) : (incFlags f v).1.toNat = (v.toNat + 1) % 256 := BitVec.toNat_add v 1

theorem decFlags_toNat (f v : Byte) : (decFlags f v).1.toNat = (v.toNat + 255) % 256 := BitVec.toNat_add v 0xFF

theorem toInt_one : (1 : Byte).toInt = 1 := rfl

/-- 43 R262: an increment is a sum with the byte 1 and no carry in. -/
theorem incFlags_flags (f v : Byte) :
    (incFlags f v).2.getLsbD 7 = (incFlags f v).1.getLsbD 7 ∧
    ((incFlags f v).2.getLsbD 6 = true ↔ v = 0xFF) ∧ ((incFlags f v).2.getLsbD 4 = true ↔ v.toNat % 16 = 15) ∧
    ((incFlags f v).2.getLsbD 2 = true ↔ v = 0x7F) ∧ (incFlags f v).2.getLsbD 0 = f.getLsbD 0 := by
  have hv : v.toNat < 256 := v.isLt
  obtain ⟨-, hZ, hH, hPV, hC⟩ := addFlags_arithmetic f (a := v) (v := 1) (c := 0) (by decide) (incFlags_toNat f v)
  rw [toInt_one, BitVec.toInt_eq_toNat_cond] at hPV
  refine ⟨getLsbD_addFlags f v 1 (v + 1) 7, hZ.trans ?zero, hH.trans ?half, hPV.trans ?overflow, hC⟩
  case zero => bv_omega
  case half => bv_omega
  case overflow => split <;> bv_omega

/-- 43 R263: a decrement is a difference with the byte 1 and no borrow in. -/
theorem decFlags_flags (f v : Byte) :
    (decFlags f v).2.getLsbD 7 = (decFlags f v).1.getLsbD 7 ∧
    ((decFlags f v).2.getLsbD 6 = true ↔ v = 0x01) ∧ ((decFlags f v).2.getLsbD 4 = true ↔ v.toNat % 16 = 0) ∧
    ((decFlags f v).2.getLsbD 2 = true ↔ v = 0x80) ∧ (decFlags f v).2.getLsbD 0 = f.getLsbD 0 := by
  have hv : v.toNat < 256 := v.isLt
  have hdiff : ((decFlags f v).1.toNat : Int) = ((v.toNat : Int) - (1 : Byte).toNat - (0 : Nat)) % 256 := by
    rw [decFlags_toNat]
    bv_omega
  obtain ⟨-, hZ, hH, hPV, hC⟩ := subFlags_arithmetic f (by decide) hdiff
  rw [toInt_one, BitVec.toInt_eq_toNat_cond] at hPV
  refine ⟨getLsbD_subFlags f v 1 (v + 0xFF) 7, hZ.trans ?zero, hH.trans ?half, hPV.trans ?overflow, hC⟩
  case zero => bv_omega
  case half => bv_omega
  case overflow => split <;> bv_omega

/-- Settles O30: the operand is read and written back, with the flags of a sum or a difference with 1. -/
theorem incDecOperand : Obligations.IncDecOperand := by
  intro l
  refine ⟨decodesTo_inc8 l, onlyConfigurationError_inc8 l, decodesTo_dec8 l, onlyConfigurationError_dec8 l,
    fun s href => ⟨⟨_, _, _, (exec_inc8 l s).trans (inc8_ref href l _), rfl, incFlags_toNat _ _, ?inc⟩,
      _, _, _, (exec_dec8 l s).trans (dec8_ref href l _), rfl, decFlags_toNat _ _, ?dec⟩⟩
  case inc =>
    simp only [readF_addCycles, State.readF_writeF, getLsbD_normFlags]
    exact incFlags_flags s.readF (s.value8 l)
  case dec =>
    simp only [readF_addCycles, State.readF_writeF, getLsbD_normFlags]
    exact decFlags_flags s.readF (s.value8 l)

/-! ## The complement and the carry (43 R265 to R267) -/

/-- 43 R267: inverting `C` is an exclusive or with its mask. -/
theorem setFlag_maskC_not (f : Byte) : setFlag f maskC (!flag f maskC) = f ^^^ 0x01 := by
  refine BitVec.eq_of_getLsbD_eq fun k _ => ?_
  have hmask : (0x01 : Byte).getLsbD k = decide (k = 0) := by simp [BitVec.getLsbD_one]
  rw [getLsbD_setFlag_maskC, flag_maskC, BitVec.getLsbD_xor, hmask]
  by_cases hk : k = 0 <;> simp [hk]

/-- Settles O31: three updates of `AF` that make no transaction. -/
theorem complementAndCarry : Obligations.ComplementAndCarry := by
  refine ⟨decodesTo_of_main rfl (takesOperands_op .cpl) rfl, decodesTo_of_main rfl (takesOperands_op .scf) rfl,
    decodesTo_of_main rfl (takesOperands_op .ccf) rfl, fun s => ⟨rfl, ⟨_, rfl, rfl⟩, _, rfl, ?ccf⟩⟩
  case ccf => rw [setFlag_maskC_not]

/-! ## The 16-bit operations (43 R270 to R273) -/

/-- 43 R270: a write of `C` alone leaves what a read of `F` shows of the other bits. -/
theorem getLsbD_normFlags_setFlag_maskC (s : State) (carry : Bool) {k : Nat} (hk : 1 ≤ k) :
    (normFlags (setFlag s.readF maskC carry)).getLsbD k = s.readF.getLsbD k := by
  have hbit : (setFlag s.readF maskC carry).getLsbD k = s.readF.getLsbD k := by
    rw [getLsbD_setFlag_maskC, if_neg (Nat.ne_of_gt hk)]
  rw [getLsbD_normFlags, hbit, ← getLsbD_normFlags, State.readF, normFlags_idem]

/-- Settles O32: the sum of two words and its carry; the operation makes no transaction. -/
theorem addPair : Obligations.AddPair := by
  refine fun x p => ⟨decodesTo_add16 x p, fun s =>
    ⟨_, exec_add16 x p s, ?sum, ?carry, fun k hk => ?others, ?frame, ?a⟩⟩
  case sum =>
    rw [read16_addCycles, read16_writeF, State.write16_read16]
    exact BitVec.toNat_add _ _
  case carry =>
    rw [readF_addCycles, State.readF_writeF, getLsbD_normFlags]
    exact (Bool.coe_iff_coe.mpr (getLsbD_setFlag_maskC s.readF _ 0)).trans decide_eq_true_iff
  case others =>
    rw [readF_addCycles, State.readF_writeF, getLsbD_normFlags_setFlag_maskC s _ hk]
  case frame => cases x <;> rfl
  case a =>
    rw [readA_addCycles, State.readA_writeF, State.readA, State.write16_af, State.readA]

/-- Settles O33: the operations make no transaction and write no flag; adding 0xFFFF is subtracting 1. -/
theorem incDecPair : Obligations.IncDecPair := by
  have hkeys : ∀ op ∈ [0x03, 0x13, 0x33, 0x0B, 0x1B, (0x3B : Byte)], ∀ cell ∈ indexTable, op ≠ cell.1 := by decide
  refine fun r => ⟨decodesTo_inc16 r, decodesTo_dec16 r, fun op hop => armOf_index_undefined (hkeys op hop),
    fun s => ⟨exec_inc16 r s, ?dec⟩⟩
  case dec => rw [exec_dec16, dec16, add_max]

end Sys2Proof.Machine
end

section
/-! PROOFS. The rotates, the shifts and the bit operations of 45: each family by its encoding, how it can fault, and
every bit of what it writes. -/

namespace Sys2Proof.Machine

/-! ## The encodings (30 R122, R125, R126) -/

/-- 30 R125: an instruction of the bit table has no operand bytes. -/
theorem decodesTo_of_bit {op : Byte} {i : Instr} (harm : armOf .bit op = .op i) : decodesTo [0xCB, op] i := by
  intro rest
  have hunit : decodeUnit .bit (op :: rest) = .ok (i, rest) := by rw [decodeUnit, harm, takeOperands]
  exact hunit

/-- 30 R126: the displacement of an instruction of the index+bit table stands before its opcode byte. -/
theorem decodesTo_of_indexBit {d op : Byte} {i : Instr} (harm : armOf (.indexBit d) op = .op i) :
    decodesTo [0xDD, 0xCB, d, op] i := by
  intro rest
  have hunit : decodeUnit (.indexBit d) (op :: rest) = .ok (i, rest) := by rw [decodeUnit, harm, takeOperands]
  exact hunit

/-- A family of the two bit tables, by the arms of its opcode bytes. -/
theorem decodesTo_of_bitTables {x y : Nat} {form : Loc → Instr}
    (hreg : ∀ r, armOf .bit (opcode x y (codeReg8 r)) = .op (form (.reg r)))
    (hHL : armOf .bit (opcode x y 6) = .op (form .atHL))
    (hIX : ∀ d, armOf (.indexBit d) (opcode x y 6) = .op (form (.atIX d))) (l : Loc) :
    decodesTo (bytesOfBit x y l) (form l) := by
  cases l with
  | reg r => exact decodesTo_of_bit (hreg r)
  | atHL => exact decodesTo_of_bit hHL
  | atIX d => exact decodesTo_of_indexBit (hIX d)

theorem decodesTo_rot (op : RotOp) (l : Loc) : decodesTo (bytesOfBit 0 (codeRot op) l) (Form.rot op l) :=
  decodesTo_of_bitTables (form := Form.rot op) (fun r => by cases op <;> cases r <;> rfl) (by cases op <;> rfl)
    (fun d => by cases op <;> rfl) l

theorem decodesTo_bit (y : Oct) (l : Loc) : decodesTo (bytesOfBit 1 y.toNat l) (Form.bit y l) :=
  decodesTo_of_bitTables (form := Form.bit y) (fun r => by cases y <;> cases r <;> rfl) (by cases y <;> rfl)
    (fun d => by cases y <;> rfl) l

theorem decodesTo_res (y : Oct) (l : Loc) : decodesTo (bytesOfBit 2 y.toNat l) (Form.res y l) :=
  decodesTo_of_bitTables (form := Form.res y) (fun r => by cases y <;> cases r <;> rfl) (by cases y <;> rfl)
    (fun d => by cases y <;> rfl) l

theorem decodesTo_set (y : Oct) (l : Loc) : decodesTo (bytesOfBit 3 y.toNat l) (Form.set y l) :=
  decodesTo_of_bitTables (form := Form.set y) (fun r => by cases y <;> cases r <;> rfl) (by cases y <;> rfl)
    (fun d => by cases y <;> rfl) l

/-! ## How an instruction can fault (60 R372) -/

theorem onlyConfigurationError_rot (op : RotOp) (l : Loc) : onlyConfigurationError (Form.rot op l) :=
  onlyConfigurationError_of_clean (exec_rot op l) <| modifyLoc_clean l fun s v =>
    let result := rotate op (flag s.readF maskC) v
    (result.1, shiftFlags s.readF result.1 result.2)

theorem onlyConfigurationError_bit (y : Oct) (l : Loc) : onlyConfigurationError (Form.bit y l) :=
  onlyConfigurationError_of_clean (exec_bit y l) fun _ =>
    Res.clean_bind_update (readLoc_clean rfl) fun t _ => State.writeF_cycles t _

/-- Reading an operand and writing a byte back is clean. -/
theorem rewriteLoc_clean (l : Loc) (result : Byte → Byte) (s : State) :
    ((readLoc l s).bind fun v s1 => writeLoc l (result v) s1).Clean s.cycles :=
  Res.clean_bind (readLoc_clean rfl) fun _ _ ht => writeLoc_clean ht

theorem onlyConfigurationError_res (y : Oct) (l : Loc) : onlyConfigurationError (Form.res y l) :=
  onlyConfigurationError_of_clean (exec_res y l) (rewriteLoc_clean l fun v => resetBit v y)

theorem onlyConfigurationError_set (y : Oct) (l : Loc) : onlyConfigurationError (Form.set y l) :=
  onlyConfigurationError_of_clean (exec_set y l) (rewriteLoc_clean l fun v => setBit v y)

/-! ## The rotates and shifts (45 R290 to R296) -/

theorem getLsbD_bitByte (c : Bool) (k : Nat) : (bitByte c).getLsbD k = (decide (k = 0) && c) := by
  cases c with
  | false => simp [bitByte]
  | true => simp [bitByte, BitVec.getLsbD_one]

/-- A shift by one to the left, with a bit brought into bit 0. -/
theorem getLsbD_shiftLeft_bitByte (v : Byte) (c : Bool) {k : Nat} (hk : k < 8) :
    (v <<< 1 ||| bitByte c).getLsbD k = if k = 0 then c else v.getLsbD (k - 1) := by
  rw [BitVec.getLsbD_or, BitVec.getLsbD_shiftLeft, getLsbD_bitByte]
  cases k with
  | zero => simp
  | succ k => simp [hk]

/-- A shift by one to the right, with a bit brought into bit 7. -/
theorem getLsbD_shiftRight_bitByte (v : Byte) (c : Bool) {k : Nat} (hk : k < 8) :
    (v >>> 1 ||| bitByte c <<< 7).getLsbD k = if k = 7 then c else v.getLsbD (k + 1) := by
  rw [BitVec.getLsbD_or, BitVec.getLsbD_ushiftRight, BitVec.getLsbD_shiftLeft, getLsbD_bitByte, Nat.add_comm 1 k]
  by_cases h : k = 7
  · subst h
    simp
  · have hlow : k < 7 := by omega
    simp [h, hlow]

/-- 45 R290, R292, R294: the bit a move to the left brings into bit 0. -/
def bitIntoLow (op : RotOp) (cold : Bool) (v : Byte) : Bool :=
  if op = .rlc then v.getLsbD 7 else if op = .rl then cold else false

/-- 45 R291, R293, R295, R296: the bit a move to the right brings into bit 7. -/
def bitIntoHigh (op : RotOp) (cold : Bool) (v : Byte) : Bool :=
  if op = .rrc then v.getLsbD 0 else if op = .rr then cold else if op = .sra then v.getLsbD 7 else false

/-- The three operations to the left differ in the bit they bring in. -/
theorem rotate_left {op : RotOp} (hop : op = .rlc ∨ op = .rl ∨ op = .sla) (cold : Bool) (v : Byte) :
    rotate op cold v = (v <<< 1 ||| bitByte (bitIntoLow op cold v), v.getLsbD 7) := by
  rcases hop with rfl | rfl | rfl
  · rfl
  · rfl
  · exact congrArg (·, v.getLsbD 7) BitVec.or_zero.symm

/-- 45 R295: keeping the sign is shifting it in. -/
theorem and_0x80_eq_bitByte (v : Byte) : v &&& 0x80 = bitByte (v.getLsbD 7) <<< 7 := by
  refine (BitVec.and_twoPow v 7).trans ?_
  cases v.getLsbD 7 <;> rfl

/-- The four operations to the right differ in the bit they bring in. -/
theorem rotate_right {op : RotOp} (hop : op = .rrc ∨ op = .rr ∨ op = .sra ∨ op = .srl) (cold : Bool) (v : Byte) :
    rotate op cold v = (v >>> 1 ||| bitByte (bitIntoHigh op cold v) <<< 7, v.getLsbD 0) := by
  rcases hop with rfl | rfl | rfl | rfl
  · rfl
  · rfl
  · exact congrArg (fun sign => (v >>> 1 ||| sign, v.getLsbD 0)) (and_0x80_eq_bitByte v)
  · exact congrArg (·, v.getLsbD 0) BitVec.or_zero.symm

/-- 45 R290, R292, R294 bit by bit. -/
theorem rotate_left_bits {op : RotOp} (hop : op = .rlc ∨ op = .rl ∨ op = .sla) (cold : Bool) (v : Byte) :
    (∀ k, k < 7 → (rotate op cold v).1.getLsbD (k + 1) = v.getLsbD k) ∧ (rotate op cold v).2 = v.getLsbD 7 ∧
    (rotate op cold v).1.getLsbD 0 = bitIntoLow op cold v := by
  rw [rotate_left hop]
  exact ⟨fun k hk => getLsbD_shiftLeft_bitByte v _ (Nat.succ_lt_succ hk), rfl,
    getLsbD_shiftLeft_bitByte v _ (by decide)⟩

/-- 45 R291, R293, R295, R296 bit by bit. -/
theorem rotate_right_bits {op : RotOp} (hop : op = .rrc ∨ op = .rr ∨ op = .sra ∨ op = .srl) (cold : Bool) (v : Byte) :
    (∀ k, k < 7 → (rotate op cold v).1.getLsbD k = v.getLsbD (k + 1)) ∧ (rotate op cold v).2 = v.getLsbD 0 ∧
    (rotate op cold v).1.getLsbD 7 = bitIntoHigh op cold v := by
  rw [rotate_right hop]
  refine ⟨fun k hk => ?_, rfl, getLsbD_shiftRight_bitByte v _ (by decide)⟩
  rw [getLsbD_shiftRight_bitByte v _ (Nat.lt_succ_of_lt hk), if_neg (Nat.ne_of_lt hk)]

/-- Each flag of a rotate or shift (45 section 1, `shift_flags`). -/
theorem getLsbD_shiftFlags (f r : Byte) (c : Bool) (k : Nat) : (shiftFlags f r c).getLsbD k =
    if k = 2 then evenParity r else if k = 6 then decide (r = 0) else if k = 7 then r.getLsbD 7 else
    if k = 0 then c else if k = 4 then false else f.getLsbD k := by
  rw [shiftFlags, adjustSzp, adjustParity, getLsbD_setFlag_maskPV, getLsbD_adjustSz, getLsbD_setFlag_maskC,
    getLsbD_setFlag_maskH]

/-- Settles O34: the operand is read, and the byte of `rotate` written back with the flags of `shiftFlags`. -/
theorem rotateOperand : Obligations.RotateOperand := by
  refine fun op l => ⟨decodesTo_rot op l, onlyConfigurationError_rot op l, fun s href => ?effect⟩
  case effect =>
    dsimp only
    rw [← flag_maskC]
    refine ⟨_, _, _, _, (exec_rot op l s).trans (rot_ref href op l _), rfl, fun hop => rotate_left_bits hop _ _,
      fun hop => rotate_right_bits hop _ _, ?flags⟩
    case flags =>
      simp only [readF_addCycles, State.readF_writeF, getLsbD_normFlags, getLsbD_shiftFlags]
      exact ⟨rfl, decide_eq_zero_iff _, evenParity_iff _, rfl, rfl⟩

/-! ## The bit test (45 R300) -/

/-- A bit written as it was read reads as it did before. -/
theorem getLsbD_normFlags_of_eq_readF {s : State} {raw : Byte} {k : Nat} (hbit : raw.getLsbD k = s.readF.getLsbD k) :
    (normFlags raw).getLsbD k = s.readF.getLsbD k := by
  rw [getLsbD_normFlags, hbit, ← getLsbD_normFlags, State.readF, normFlags_idem]

/-- Settles O35: the operand is read, and of the flags `Z` alone is written. (`bitTest` alone is the operation's
name.) -/
theorem BitOps.bitTest : Obligations.BitTest := by
  refine fun y l => ⟨decodesTo_bit y l, onlyConfigurationError_bit y l, fun s href =>
    ⟨_, _, (exec_bit y l s).trans (bitTest_ref href y l _), rfl, ?zero, fun k hk => ?others⟩⟩
  case zero =>
    rw [readF_addCycles, State.readF_writeF, getLsbD_normFlags]
    exact getLsbD_setFlag_maskZ s.readF _ 6
  case others =>
    rw [readF_addCycles, State.readF_writeF]
    exact getLsbD_normFlags_of_eq_readF ((getLsbD_setFlag_maskZ s.readF _ k).trans (if_neg hk))

/-! ## Resetting and setting a bit (45 R301, R302) -/

theorem oct_toNat_lt (y : Oct) : y.toNat < 8 := by cases y <;> decide

/-- Resetting a bit is what `set_flag` (40 R140) does with a false condition, on any byte. -/
theorem getLsbD_resetBit (v : Byte) (y : Oct) (k : Nat) :
    (resetBit v y).getLsbD k = if k = y.toNat then false else v.getLsbD k :=
  getLsbD_setFlag v (oct_toNat_lt y) false k

/-- Setting a bit is what `set_flag` (40 R140) does with a true condition, on any byte. -/
theorem getLsbD_setBit (v : Byte) (y : Oct) (k : Nat) :
    (setBit v y).getLsbD k = if k = y.toNat then true else v.getLsbD k :=
  getLsbD_setFlag v (oct_toNat_lt y) true k

/-- Settles O36: the operand is read and written back with the one bit changed, whatever the bit was. -/
theorem bitResetSet : Obligations.BitResetSet := by
  refine fun y l => ⟨decodesTo_res y l, onlyConfigurationError_res y l, decodesTo_set y l,
    onlyConfigurationError_set y l, fun s href => ⟨⟨_, ?reset, fun k _ => getLsbD_resetBit _ y k⟩,
      _, ?set, fun k _ => getLsbD_setBit _ y k⟩⟩
  case reset => exact (exec_res y l s).trans (bitReset_ref href y l _)
  case set => exact (exec_set y l s).trans (bitSet_ref href y l _)

end Sys2Proof.Machine
end

section
/-! PROOFS. The control transfers of 46, with `RETI` of 47: each family by its encoding, how it can fault, and where it
leaves `PC`, `LATCH` and the stack. A form with a condition is stated once for all its conditions. -/

namespace Sys2Proof.Machine

/-! ## The encodings (30 R115, R118, R123) -/

theorem decodesTo_jumpCond (cc : Cond) (nn : Word) :
    decodesTo (opcode 3 (codeCond cc) 2 :: wordBytes nn) (Form.jumpCond nn cc) := by
  have harm : armOf .none (opcode 3 (codeCond cc) 2) = .word fun nn => Form.jumpCond nn cc := by cases cc <;> rfl
  exact decodesTo_of_main harm (takesOperands_word _ nn) (by cases cc <;> rfl)

theorem decodesTo_jumpReg (x : HLX) : decodesTo (bytesOfHLX 0xE9 [] x) (Form.jumpReg x) := by
  cases x with
  | hl => exact decodesTo_of_main rfl (takesOperands_op .jpHL) rfl
  | ix => exact decodesTo_of_index rfl (takesOperands_op .jpIX) rfl

theorem decodesTo_jumpRelCond (cc : RelCond) (d : Byte) :
    decodesTo [opcode 0 (4 + codeCond (relCond cc)) 0, d] (Form.jumpRelCond d cc) := by
  have harm : armOf .none (opcode 0 (4 + codeCond (relCond cc)) 0) = .byte fun d => Form.jumpRelCond d cc := by
    cases cc <;> rfl
  exact decodesTo_of_main harm (takesOperands_byte _ d) (by cases cc <;> rfl)

theorem decodesTo_callCond (cc : Cond) (nn : Word) :
    decodesTo (opcode 3 (codeCond cc) 4 :: wordBytes nn) (Form.callCond nn cc) := by
  have harm : armOf .none (opcode 3 (codeCond cc) 4) = .word fun nn => Form.callCond nn cc := by cases cc <;> rfl
  exact decodesTo_of_main harm (takesOperands_word _ nn) (by cases cc <;> rfl)

theorem decodesTo_retCond (cc : Cond) : decodesTo [opcode 3 (codeCond cc) 0] (Form.retCond cc) := by
  have harm : armOf .none (opcode 3 (codeCond cc) 0) = .op (Form.retCond cc) := by cases cc <;> rfl
  exact decodesTo_of_main harm (takesOperands_op _) (by cases cc <;> rfl)

theorem decodesTo_restart (y : Oct) : decodesTo [opcode 3 y.toNat 7] (Form.restart y) := by
  have harm : armOf .none (opcode 3 y.toNat 7) = .op (Form.restart y) := by cases y <;> rfl
  exact decodesTo_of_main harm (takesOperands_op _) (by cases y <;> rfl)

/-! ## How an instruction can fault (60 R372) -/

/-- A conditional form whose taken branch is a clean operation faults only as that operation does; the branch not taken
makes no transaction. -/
theorem onlyConfigurationError_of_cond {i : Instr} {cc : Cond} {r : State → Res Unit} {taken : Nat}
    {skip : State → State}
    (hexec : ∀ s, exec i s = if condHolds s.readF cc then (r s).finish taken else .next (skip s))
    (hclean : ∀ s, (r s).Clean s.cycles) : onlyConfigurationError i := by
  intro s f hfault
  rw [hexec] at hfault
  split at hfault
  · exact Res.finish_fault_clean (hclean s) hfault
  · cases hfault

/-- 46 R320: `LATCH` is written before the push. -/
theorem pushAndGo_writeLatch_clean (nn : Word) (s : State) : (pushAndGo nn (s.writeLatch nn)).Clean s.cycles :=
  pushAndGo_clean (State.writeLatch_cycles s nn)

theorem onlyConfigurationError_call (nn : Word) : onlyConfigurationError (.call nn) :=
  onlyConfigurationError_of_clean (fun _ => rfl) (pushAndGo_writeLatch_clean nn)

theorem onlyConfigurationError_callCond (cc : Cond) (nn : Word) : onlyConfigurationError (Form.callCond nn cc) :=
  onlyConfigurationError_of_cond (exec_callCond cc nn) (pushAndGo_writeLatch_clean nn)

theorem onlyConfigurationError_ret : onlyConfigurationError .ret :=
  onlyConfigurationError_of_clean (fun _ => rfl) fun _ => returnPC_clean rfl

theorem onlyConfigurationError_reti : onlyConfigurationError .reti :=
  onlyConfigurationError_of_clean (fun _ => rfl) fun _ =>
    Res.clean_bind_update (returnPC_clean rfl) fun t _ => State.writeIFF_cycles t true

theorem onlyConfigurationError_retCond (cc : Cond) : onlyConfigurationError (Form.retCond cc) :=
  onlyConfigurationError_of_cond (exec_retCond cc) fun _ => returnPC_clean rfl

theorem onlyConfigurationError_restart (y : Oct) : onlyConfigurationError (Form.restart y) :=
  onlyConfigurationError_of_clean (exec_restart y) fun _ => pushAndGo_clean rfl

/-! ## The jumps (46 R310 to R312) -/

/-- 46 R311: the condition decides `PC` alone; `LATCH` and the cost are the same taken or not. -/
theorem jumpCond_eq (cc : Cond) (nn : Word) (n : Nat) (s : State) : jumpCond cc nn n s =
    .next { s with pc := if condHolds s.readF cc then nn else s.pc, latch := nn, cycles := s.cycles + n } := by
  unfold jumpCond
  split <;> rfl

/-- Settles O37: the jumps make no transaction, so they answer on any bus. -/
theorem jumps : Obligations.Jumps := by
  refine fun nn cc x => ⟨decodesTo_of_main rfl (takesOperands_word .jp nn) rfl, decodesTo_jumpCond cc nn,
    decodesTo_jumpReg x, fun s => ⟨rfl, ?cond, exec_jumpReg x s⟩⟩
  case cond => exact (exec_jumpCond cc nn s).trans (jumpCond_eq cc nn 10 s)

/-! ## The relative jumps (46 R314 to R316) -/

theorem exec_djnz (d : Byte) (s : State) : exec (.djnz d) s = decJump d 8 13 s := rfl

/-- 46 R314: the displacement is read as two's complement. -/
theorem addCycles_relativeJump (s : State) (d : Byte) (n : Nat) : (s.relativeJump d).addCycles n =
    { s with
      pc := s.pc + BitVec.ofInt 16 d.toInt, latch := s.pc + BitVec.ofInt 16 d.toInt, cycles := s.cycles + n } := rfl

/-- 46 R316: adding 0xFF to a byte is subtracting 1. -/
theorem add_0xFF_eq_sub_one (b : Byte) : b + 0xFF = b - 1 := by bv_omega

/-- 46 R316: with `B` at 1 the loop ends; with any other value, also 0, it goes on. -/
theorem decJump_eq (d : Byte) (notTaken taken : Nat) (s : State) : decJump d notTaken taken s =
    if s.read8 .b = 1 then .next ((s.write8 .b 0).addCycles notTaken)
    else .next (((s.write8 .b (s.read8 .b - 1)).relativeJump d).addCycles taken) := by
  unfold decJump
  rw [add_0xFF_eq_sub_one]
  by_cases hb : s.read8 .b = 1
  · rw [if_pos hb, hb]
    rfl
  · have hcount : s.read8 .b - 1 ≠ 0 := fun h => hb (by bv_omega)
    exact (if_pos hcount).trans (if_neg hb).symm

/-- Settles O38: one relative jump behind the three families; none of them makes a transaction. -/
theorem relativeJumps : Obligations.RelativeJumps := by
  refine fun d cc => ⟨decodesTo_of_main rfl (takesOperands_byte .jr d) rfl,
    decodesTo_of_main rfl (takesOperands_byte .djnz d) rfl, decodesTo_jumpRelCond cc d,
    fun s => ⟨congrArg Host.Outcome.next (addCycles_relativeJump s d 12), ?cond, ?loop⟩⟩
  case cond => rw [exec_jumpRelCond, jumpRelCond, addCycles_relativeJump, State.addCycles]
  case loop => rw [exec_djnz, decJump_eq, addCycles_relativeJump, State.write8_pc, State.write8_cycles]

/-! ## The calls (46 R320, R321) -/

/-- 46 R320 on the REF bus: the address pushed is `PC`, which the write of `LATCH` leaves. -/
theorem callTo_ref {s : State} (h : s.onRefBus) (nn : Word) (n : Nat) :
    callTo nn n s = .next ((((s.writeLatch nn).afterPush s.pc).writePC nn).addCycles n) := by
  rw [callTo, pushAndGo_ref (ref_writeLatch h nn), Res.finish_ok, State.writeLatch_pc]

theorem callCond_of_holds {s : State} {cc : Cond} (hcc : condHolds s.readF cc = true) (nn : Word)
    (notTaken taken : Nat) : callCond cc nn notTaken taken s = callTo nn taken s := if_pos hcc

theorem callCond_of_not_holds {s : State} {cc : Cond} (hcc : condHolds s.readF cc = false) (nn : Word)
    (notTaken taken : Nat) : callCond cc nn notTaken taken s = .next ((s.writeLatch nn).addCycles notTaken) :=
  if_neg (ne_true_of_eq_false hcc)

/-- Settles O39: a call that is taken is `CALL nn`; one that is not makes no transaction. -/
theorem calls : Obligations.Calls := by
  refine fun nn cc => ⟨decodesTo_of_main rfl (takesOperands_word .call nn) rfl, onlyConfigurationError_call nn,
    decodesTo_callCond cc nn, onlyConfigurationError_callCond cc nn, fun s =>
      ⟨fun hcc => ?skipped, fun href => ⟨callTo_ref href nn 17, fun hcc => ?taken⟩⟩⟩
  case skipped => rw [exec_callCond, callCond_of_not_holds hcc]
  case taken => rw [exec_callCond, callCond_of_holds hcc, callTo_ref href]

/-! ## The returns (46 R324, R325; 47 R348) -/

theorem ret_ref {s : State} (h : s.onRefBus) (n : Nat) :
    ret n s = .next ((s.afterPop.writePC s.stackTop).addCycles n) := by
  rw [ret, returnPC_ref h, Res.finish_ok]

/-- 47 R348 on the REF bus: a return that also enables. -/
theorem returnEnable_ref {s : State} (h : s.onRefBus) (n : Nat) :
    returnEnable n s = .next (((s.afterPop.writePC s.stackTop).writeIFF true).addCycles n) := by
  rw [returnEnable, returnPC_ref h, Res.bind_ok, Res.finish_ok]

theorem retCond_of_holds {s : State} {cc : Cond} (hcc : condHolds s.readF cc = true) (notTaken taken : Nat) :
    retCond cc notTaken taken s = ret taken s := if_pos hcc

theorem retCond_of_not_holds {s : State} {cc : Cond} (hcc : condHolds s.readF cc = false) (notTaken taken : Nat) :
    retCond cc notTaken taken s = .next (s.addCycles notTaken) := if_neg (ne_true_of_eq_false hcc)

/-- Settles O40: a return that is taken is `RET` with its own cost; one that is not makes no transaction. -/
theorem returns : Obligations.Returns := by
  refine fun cc => ⟨decodesTo_of_main rfl (takesOperands_op .ret) rfl,
    decodesTo_of_main rfl (takesOperands_op .reti) rfl, decodesTo_retCond cc, onlyConfigurationError_ret,
    onlyConfigurationError_reti, onlyConfigurationError_retCond cc,
    fun s => ⟨fun hcc => ?skipped, fun href => ⟨ret_ref href 10, returnEnable_ref href 10, fun hcc => ?taken⟩⟩⟩
  case skipped => rw [exec_retCond, retCond_of_not_holds hcc]
  case taken => rw [exec_retCond, retCond_of_holds hcc, ret_ref href]

/-! ## The restart (46 R330) -/

theorem restart_ref {s : State} (h : s.onRefBus) (y : Oct) (n : Nat) :
    restart y n s = .next (((s.afterPush s.pc).writePC (restartTarget y)).addCycles n) := by
  rw [restart, pushAndGo_ref h, Res.finish_ok]

/-- Settles O41, from where a push puts the halves of `PC`. (`restart` alone is the operation's name.) -/
theorem Control.restart : Obligations.Restart := by
  refine fun y => ⟨decodesTo_restart y, onlyConfigurationError_restart y, fun s href =>
    ⟨_, (exec_restart y s).trans (restart_ref href y 11), rfl, ?high, ?low, ?sp, ?latch⟩⟩
  case high => rw [byteAt_addCycles, byteAt_writePC, byteAt_afterPush_high]
  case low => rw [byteAt_addCycles, byteAt_writePC, byteAt_afterPush_low]
  case sp => rw [State.addCycles_sp, State.writePC_sp, afterPush_sp]
  case latch => rw [State.addCycles_latch, State.writePC_latch, State.afterPush_latch]

end Sys2Proof.Machine
end

section
/-! PROOFS. The system instructions of 47 but for `RETI`: their encodings, and the exact state each leaves. None of them
makes a transaction, so what is said here holds on any bus. -/

namespace Sys2Proof.Machine

/-- 47 R346: the three modes have rows of their own in the main table. -/
theorem decodesTo_intMode :
    decodesTo [0xC6] (Form.intMode .im0) ∧ decodesTo [0xCE] (Form.intMode .im1) ∧
      decodesTo [0xD6] (Form.intMode .im2) :=
  ⟨decodesTo_of_main rfl (takesOperands_op .im0) rfl, decodesTo_of_main rfl (takesOperands_op .im1) rfl,
    decodesTo_of_main rfl (takesOperands_op .im2) rfl⟩

theorem noOperation_eq (n : Nat) (s : State) : noOperation n s = .next { s with cycles := s.cycles + n } := rfl

/-- 47 R342: adding 0xFFFF to `PC` takes it back to the address of the `HALT` byte, also when the fetch wrapped. -/
theorem enterHalt_eq (n : Nat) (s : State) :
    enterHalt n s = .next { s with pc := s.pc - 1, halted := true, cycles := s.cycles + n } := by
  rw [enterHalt, add_max]
  rfl

theorem setEnable_eq (b : Bool) (n : Nat) (s : State) :
    setEnable b n s = .next { s with iff := b, cycles := s.cycles + n } := rfl

theorem setMode_eq (m : IntMode) (n : Nat) (s : State) :
    setMode m n s = .next { s with im := m, cycles := s.cycles + n } := rfl

theorem loadI_eq (n : Nat) (s : State) : loadI n s = .next { s with i := s.readA, cycles := s.cycles + n } := rfl

/-- Settles O42: each instruction is one system operation with the cost 4. -/
theorem systemInstructions : Obligations.SystemInstructions := by
  obtain ⟨him0, him1, him2⟩ := decodesTo_intMode
  refine ⟨decodesTo_of_main rfl (takesOperands_op .nop) rfl, decodesTo_of_main rfl (takesOperands_op .halt) rfl,
    decodesTo_of_main rfl (takesOperands_op .di) rfl, decodesTo_of_main rfl (takesOperands_op .ei) rfl,
    decodesTo_of_main rfl (takesOperands_op .ldI_A) rfl, him0, him1, him2, fun s => ?effect⟩
  case effect =>
    exact ⟨noOperation_eq 4 s, enterHalt_eq 4 s, setEnable_eq false 4 s, setEnable_eq true 4 s, loadI_eq 4 s,
      fun m => (exec_intMode m s).trans (setMode_eq m 4 s)⟩

end Sys2Proof.Machine
end

section
/-! PROOFS. The services of `NMI` and `INT` on the REF bus (60 R379 to R388): the state a service interrupts, what every
service leaves of it, and where each takes `PC` from. -/

namespace Sys2Proof.Machine

/-! ## The choice of the service (41 R183) -/

theorem pollAndAct_of_nmi {s : State} (hreset : s.resetLine = false) (hnmi : s.nmiLine = true) :
    s.pollAndAct = serviceNmi s := by
  rw [State.pollAndAct, if_neg (by simp [hreset]), if_pos hnmi]

theorem pollAndAct_of_int {s : State} (hreset : s.resetLine = false) (hnmi : s.nmiLine = false)
    (hint : s.intLine = true) (hiff : s.iff = true) : s.pollAndAct = serviceInt s := by
  rw [State.pollAndAct, if_neg (by simp [hreset]), if_neg (by simp [hnmi]), if_pos (by simp [hint, hiff])]

/-! ## The state a service interrupts (60 R381 to R383) -/

/-- 60 R381: after the wake `PC` is the return address, and the machine is not halted. -/
theorem wake_eq (s : State) : s.wake = { s with halted := false, pc := s.returnAddress } := by
  unfold State.wake State.returnAddress
  cases hhalted : s.halted with
  | true => rfl
  | false => exact congrArg (fun b => { s with halted := b }) hhalted

/-- The state whose `PC` the service of `NMI` pushes: the step has begun, the line is lowered, the machine is awake
(60 R382). -/
def State.interruptedByNmi (s : State) : State :=
  { s.beginStep with nmiLine := false, halted := false, pc := s.returnAddress }

theorem wake_drive_nmi_beginStep (s : State) : (s.beginStep.drive .nmi false).wake = s.interruptedByNmi :=
  wake_eq (s.beginStep.drive .nmi false)

/-- The state whose `PC` the service of `INT` pushes: the step has begun, the machine is awake, `IFF` is cleared
(60 R383). -/
def State.interruptedByInt (s : State) : State :=
  { s.beginStep with halted := false, iff := false, pc := s.returnAddress }

theorem writeIFF_wake_beginStep (s : State) : s.beginStep.wake.writeIFF false = s.interruptedByInt :=
  congrArg (State.writeIFF · false) (wake_eq s.beginStep)

theorem State.interruptedByNmi_cycles (s : State) : s.interruptedByNmi.cycles = 0 := rfl

theorem State.interruptedByInt_cycles (s : State) : s.interruptedByInt.cycles = 0 := rfl

theorem ref_interruptedByNmi {s : State} (h : s.onRefBus) : s.interruptedByNmi.onRefBus := h

theorem ref_interruptedByInt {s : State} (h : s.onRefBus) : s.interruptedByInt.onRefBus := h

/-! ## The read of a word (20 R70) -/

/-- 20 R70: the read of a word is two transactions, the low byte first. -/
theorem trace_afterRead16 (s : State) (a : Word) : (s.afterRead16 a).trace =
    s.trace ++ [⟨.mem, .read, a, s.byteAt a, .data⟩, ⟨.mem, .read, a + 1, s.byteAt (a + 1), .data⟩] :=
  List.append_assoc _ _ _

theorem byteAt_afterRead16 (s : State) (a b : Word) : (s.afterRead16 a).byteAt b = s.byteAt b := rfl

/-! ## What every service leaves (60 R380) -/

/-- 60 R380: `t` is `s` with its `PC` pushed. `PC`, `LATCH`, the cost, the bus latches and the logs are each service's
own. -/
structure State.SavedReturn (s t : State) : Prop where
  sp : t.sp = s.sp - 2
  high : t.byteAt (s.sp - 1) = hiByte s.pc
  low : t.byteAt (s.sp - 2) = loByte s.pc
  frame : ∀ a, a ≠ s.sp - 1 → a ≠ s.sp - 2 → t.byteAt a = s.byteAt a
  registers : t.af = s.af ∧ t.bc = s.bc ∧ t.de = s.de ∧ t.hl = s.hl ∧ t.ix = s.ix
  control : s.sameControl t

theorem savedReturn_afterPush (s : State) : s.SavedReturn (s.afterPush s.pc) where
  sp := afterPush_sp s s.pc
  high := byteAt_afterPush_high s s.pc
  low := byteAt_afterPush_low s s.pc
  frame a hhigh hlow := by rw [byteAt_afterPush, if_neg hlow, if_neg hhigh]
  registers := by simp
  control := by simp [State.sameControl]

/-- The state at the end of a step whose service enters its handler at `target` (41 R180). -/
def State.enterHandler (s : State) (target : Word) (cost : Nat) : State :=
  (((s.writePC target).addCycles cost).emit .executedInstruction).writePfx .none

theorem State.enterHandler_pc (s : State) (target : Word) (cost : Nat) : (s.enterHandler target cost).pc = target := rfl

theorem State.enterHandler_latch (s : State) (target : Word) (cost : Nat) :
    (s.enterHandler target cost).latch = s.latch := rfl

theorem State.enterHandler_trace (s : State) (target : Word) (cost : Nat) :
    (s.enterHandler target cost).trace = s.trace := rfl

theorem byteAt_enterHandler (s : State) (target : Word) (cost : Nat) (a : Word) :
    (s.enterHandler target cost).byteAt a = s.byteAt a := rfl

theorem State.enterHandler_cycles (s : State) (target : Word) (cost : Nat) :
    (s.enterHandler target cost).cycles = s.cycles + cost := rfl

theorem State.SavedReturn.enterHandler {s t : State} (h : s.SavedReturn t) (target : Word) (cost : Nat) :
    s.SavedReturn (t.enterHandler target cost) :=
  ⟨h.sp, h.high, h.low, h.frame, h.registers, h.control⟩

/-- The step of a service that enters its handler with a cost. -/
theorem step_of_service {s u : State} {target : Word} {cost : Nat} (hpowered : s.powered = true)
    (hfaulted : s.faulted = false) (hcost : cost ≠ 0)
    (hact : s.beginStep.pollAndAct = .next ((u.writePC target).addCycles cost)) :
    step s = .next (u.enterHandler target cost) := by
  have hcycles : ((u.writePC target).addCycles cost).cycles ≠ 0 := fun h => hcost (Nat.eq_zero_of_add_eq_zero_left h)
  rw [step_of_powered hpowered hfaulted, hact, endStep_next_of_cost hcycles, State.enterHandler]

/-! ## NMI (60 R382) -/

/-- 60 R382 on the REF bus: the push of the interrupted `PC`, then the fixed vector. -/
theorem serviceNmi_ref {s : State} (h : s.onRefBus) : serviceNmi s.beginStep = .next
    (((s.interruptedByNmi.afterPush s.interruptedByNmi.pc).writePC 0x0066).addCycles 11) := by
  rw [serviceNmi, enterNmi, wake_drive_nmi_beginStep, saveReturn, push16_ref (ref_interruptedByNmi h), Res.bind_ok,
    Res.finish_ok]

/-- The state after the step that services `NMI`, on the REF bus. -/
def State.afterNmi (s : State) : State :=
  (s.interruptedByNmi.afterPush s.interruptedByNmi.pc).enterHandler 0x0066 11

theorem step_of_nmi {s : State} (href : s.onRefBus) (hpowered : s.powered = true) (hfaulted : s.faulted = false)
    (hreset : s.resetLine = false) (hnmi : s.nmiLine = true) : step s = .next s.afterNmi :=
  step_of_service hpowered hfaulted (by decide)
    ((pollAndAct_of_nmi (s := s.beginStep) hreset hnmi).trans (serviceNmi_ref href))

theorem savedReturn_afterNmi (s : State) : s.interruptedByNmi.SavedReturn s.afterNmi :=
  (savedReturn_afterPush s.interruptedByNmi).enterHandler _ _

theorem State.afterNmi_pc (s : State) : s.afterNmi.pc = 0x0066 := State.enterHandler_pc _ _ _

theorem State.afterNmi_cycles (s : State) : s.afterNmi.cycles = 11 := by
  rw [State.afterNmi, State.enterHandler_cycles, State.afterPush_cycles, State.interruptedByNmi_cycles]

theorem State.afterNmi_latch (s : State) : s.afterNmi.latch = s.latch := by
  rw [State.afterNmi, State.enterHandler_latch, State.afterPush_latch]
  rfl

theorem trace_afterNmi (s : State) : s.afterNmi.trace =
    s.trace ++ [⟨.mem, .write, s.sp - 1, hiByte s.returnAddress, .data⟩,
      ⟨.mem, .write, s.sp - 2, loByte s.returnAddress, .data⟩] := by
  rw [State.afterNmi, State.enterHandler_trace, trace_afterPush]
  rfl

/-- Settles O53: of the interrupted state the service saves the return address; the step has changed nothing else in it
but `halted` and the line. -/
theorem nmiService : Obligations.NmiService := by
  intro s href hpowered hfaulted hreset hnmi
  have hsaved := savedReturn_afterNmi s
  obtain ⟨haf, hbc, hde, hhl, hix⟩ := hsaved.registers
  obtain ⟨hafAlt, hbcAlt, hdeAlt, hhlAlt, hi, him, hiff, hawake, hpow, hfault, hres, hlowered, hint, hdata⟩ :=
    hsaved.control
  exact ⟨s.afterNmi, step_of_nmi href hpowered hfaulted hreset hnmi, s.afterNmi_pc, hsaved.sp, s.afterNmi_cycles,
    hawake, hlowered, hsaved.high, hsaved.low, hsaved.frame, trace_afterNmi s, haf, hbc, hde, hhl, hix,
    s.afterNmi_latch, hafAlt, hbcAlt, hdeAlt, hhlAlt, hi, him, hiff, rfl, hpow, hfault, hres, rfl, hint, hdata⟩

/-! ## INT (60 R383 to R386) -/

/-- The address of the table entry of mode 2 (60 R386). -/
def State.vectorEntry (s : State) : Word := joinBytes s.i s.intData

/-- The state after finding the vector, on the REF bus: only mode 2 reads it from memory (60 R386). -/
def State.afterVector (s : State) : State :=
  match s.im with
  | .im0 | .im1 => s
  | .im2 => (s.writeLatch s.vectorEntry).afterRead16 s.vectorEntry

/-- The vector of `INT`, on the REF bus (60 R384 to R386). -/
def State.intVector (s : State) : Word :=
  match s.im with
  | .im0 => zeroExt (s.intData &&& 0x38)
  | .im1 => 0x0038
  | .im2 => s.wordAt s.vectorEntry

/-- The cost of the service of `INT` (60 R388). -/
def intCost : IntMode → Nat
  | .im0 | .im1 => 13
  | .im2 => 19

theorem intCost_ne_zero (m : IntMode) : intCost m ≠ 0 := by cases m <;> decide

theorem State.SavedReturn.afterVector {s t : State} (h : s.SavedReturn t) : s.SavedReturn t.afterVector := by
  unfold State.afterVector
  split
  · exact h
  · exact h
  · exact ⟨h.sp, h.high, h.low, h.frame, h.registers, h.control⟩

theorem State.afterVector_cycles (s : State) : s.afterVector.cycles = s.cycles := by
  unfold State.afterVector
  split
  · rfl
  · rfl
  · exact State.afterRead16_cycles _ _

theorem byteAt_afterVector (s : State) (a : Word) : s.afterVector.byteAt a = s.byteAt a := by
  unfold State.afterVector
  split <;> rfl

theorem vectorEntry_afterPush (s : State) (w : Word) : (s.afterPush w).vectorEntry = s.vectorEntry := by
  rw [State.vectorEntry, State.afterPush_i, State.afterPush_intData, State.vectorEntry]

/-- 60 R384: bits 5 to 3 of the byte name the restart target; the other bits are ignored. -/
theorem zeroExt_and_0x38 (b : Byte) : zeroExt (b &&& 0x38) = BitVec.ofNat 16 (8 * (b.toNat / 8 % 8)) := by
  have hmask : b &&& (0x38 : Byte) = (b >>> 3 &&& 0x07) <<< 3 := by revert b; decide
  have hfield : (b >>> 3 &&& 0x07).toNat = b.toNat / 8 % 8 := toNat_shiftRight_and_lowMask b 3 (n := 3) rfl
  apply BitVec.eq_of_toNat_eq
  rw [hmask, zeroExt, BitVec.toNat_setWidth, BitVec.toNat_shiftLeft, hfield, Nat.shiftLeft_eq, BitVec.toNat_ofNat]
  omega

theorem State.afterVector_of_ne_im2 {s : State} (him : s.im ≠ .im2) : s.afterVector = s := by
  unfold State.afterVector
  split
  case h_1 => rfl
  case h_2 => rfl
  case h_3 htable => exact absurd htable him

theorem State.afterVector_of_im2 {s : State} (him : s.im = .im2) :
    s.afterVector = (s.writeLatch s.vectorEntry).afterRead16 s.vectorEntry := by
  rw [State.afterVector, him]

theorem State.intVector_of_im0 {s : State} (him : s.im = .im0) :
    s.intVector = zeroExt (s.intData &&& 0x38) := by
  rw [State.intVector, him]

theorem State.intVector_of_im1 {s : State} (him : s.im = .im1) : s.intVector = 0x0038 := by
  rw [State.intVector, him]

theorem State.intVector_of_im2 {s : State} (him : s.im = .im2) : s.intVector = s.wordAt s.vectorEntry := by
  rw [State.intVector, him]

/-- 60 R384 on the REF bus. -/
theorem enterIntMode0_ref {s : State} (h : s.onRefBus) (him : s.im = .im0) : enterIntMode0 s =
    .ok () ((s.afterPush s.pc).afterVector.writePC (s.afterPush s.pc).intVector) := by
  have hmode : (s.afterPush s.pc).im = .im0 := (s.afterPush_im s.pc).trans him
  have hdirect : (s.afterPush s.pc).im ≠ .im2 := fun htable => nomatch hmode.symm.trans htable
  rw [enterIntMode0, saveReturn, push16_ref h, Res.bind_ok, State.afterVector_of_ne_im2 hdirect,
    State.intVector_of_im0 hmode, State.afterPush_intData]

/-- 60 R385 on the REF bus. -/
theorem enterIntMode1_ref {s : State} (h : s.onRefBus) (him : s.im = .im1) : enterIntMode1 s =
    .ok () ((s.afterPush s.pc).afterVector.writePC (s.afterPush s.pc).intVector) := by
  have hmode : (s.afterPush s.pc).im = .im1 := (s.afterPush_im s.pc).trans him
  have hdirect : (s.afterPush s.pc).im ≠ .im2 := fun htable => nomatch hmode.symm.trans htable
  rw [enterIntMode1, saveReturn, push16_ref h, Res.bind_ok, State.afterVector_of_ne_im2 hdirect,
    State.intVector_of_im1 hmode]

/-- 60 R386 on the REF bus: the table entry is read from memory as the push has left it. -/
theorem enterIntMode2_ref {s : State} (h : s.onRefBus) (him : s.im = .im2) : enterIntMode2 s =
    .ok () ((s.afterPush s.pc).afterVector.writePC (s.afterPush s.pc).intVector) := by
  have hmode : (s.afterPush s.pc).im = .im2 := (s.afterPush_im s.pc).trans him
  have hentry : joinBytes (s.afterPush s.pc).i s.intData = (s.afterPush s.pc).vectorEntry := by
    rw [State.vectorEntry, State.afterPush_intData]
  rw [enterIntMode2, saveReturn, push16_ref h, Res.bind_ok]
  dsimp only
  rw [hentry, memRead16_ref (ref_writeLatch (ref_afterPush h s.pc) _), Res.bind_ok, wordAt_writeLatch,
    State.afterVector_of_im2 hmode, State.intVector_of_im2 hmode]

/-- The state after the push of `INT`'s service, on the REF bus, in which the vector is found. -/
def State.pushedByInt (s : State) : State := s.interruptedByInt.afterPush s.interruptedByInt.pc

theorem State.pushedByInt_im (s : State) : s.pushedByInt.im = s.im := s.interruptedByInt.afterPush_im _

theorem State.pushedByInt_latch (s : State) : s.pushedByInt.latch = s.latch := s.interruptedByInt.afterPush_latch _

theorem State.pushedByInt_intData (s : State) : s.pushedByInt.intData = s.intData :=
  s.interruptedByInt.afterPush_intData _

theorem State.pushedByInt_vectorEntry (s : State) : s.pushedByInt.vectorEntry = s.vectorEntry :=
  vectorEntry_afterPush s.interruptedByInt _

theorem trace_pushedByInt (s : State) : s.pushedByInt.trace =
    s.trace ++ [⟨.mem, .write, s.sp - 1, hiByte s.returnAddress, .data⟩,
      ⟨.mem, .write, s.sp - 2, loByte s.returnAddress, .data⟩] :=
  trace_afterPush s.interruptedByInt s.interruptedByInt.pc

/-- 60 R383 on the REF bus: the push of the interrupted `PC`, then the vector of the mode in force. -/
theorem serviceInt_ref {s : State} (h : s.onRefBus) : serviceInt s.beginStep =
    .next ((s.pushedByInt.afterVector.writePC s.pushedByInt.intVector).addCycles (intCost s.im)) := by
  have href : s.interruptedByInt.onRefBus := ref_interruptedByInt h
  have hmode : s.im = s.interruptedByInt.im := rfl
  rw [serviceInt, writeIFF_wake_beginStep, hmode, State.pushedByInt]
  cases him : s.interruptedByInt.im with
  | im0 => rw [enterIntMode0_ref href him, Res.finish_ok, intCost]
  | im1 => rw [enterIntMode1_ref href him, Res.finish_ok, intCost]
  | im2 => rw [enterIntMode2_ref href him, Res.finish_ok, intCost]

/-- The state after the step that services `INT`, on the REF bus. -/
def State.afterInt (s : State) : State :=
  s.pushedByInt.afterVector.enterHandler s.pushedByInt.intVector (intCost s.im)

theorem step_of_int {s : State} (href : s.onRefBus) (hpowered : s.powered = true) (hfaulted : s.faulted = false)
    (hreset : s.resetLine = false) (hnmi : s.nmiLine = false) (hint : s.intLine = true) (hiff : s.iff = true) :
    step s = .next s.afterInt :=
  step_of_service hpowered hfaulted (intCost_ne_zero s.im)
    ((pollAndAct_of_int (s := s.beginStep) hreset hnmi hint hiff).trans (serviceInt_ref href))

theorem savedReturn_afterInt (s : State) : s.interruptedByInt.SavedReturn s.afterInt :=
  (savedReturn_afterPush s.interruptedByInt).afterVector.enterHandler _ _

theorem State.afterInt_pc (s : State) : s.afterInt.pc = s.pushedByInt.intVector := State.enterHandler_pc _ _ _

theorem State.afterInt_cycles (s : State) : s.afterInt.cycles = intCost s.im := by
  rw [State.afterInt, State.enterHandler_cycles, State.afterVector_cycles, State.pushedByInt, State.afterPush_cycles,
    State.interruptedByInt_cycles, Nat.zero_add]

theorem byteAt_afterInt (s : State) (a : Word) : s.afterInt.byteAt a = s.pushedByInt.byteAt a := by
  rw [State.afterInt, byteAt_enterHandler, byteAt_afterVector]

/-- 60 R384, R385: outside mode 2 the vector takes no transaction and leaves `LATCH`. -/
theorem afterInt_of_ne_im2 {s : State} (hmode : s.im ≠ .im2) :
    s.afterInt.latch = s.latch ∧ s.afterInt.trace = s.pushedByInt.trace := by
  have hstay : s.pushedByInt.afterVector = s.pushedByInt :=
    State.afterVector_of_ne_im2 fun htable => hmode (s.pushedByInt_im.symm.trans htable)
  constructor
  · rw [State.afterInt, State.enterHandler_latch, hstay, State.pushedByInt_latch]
  · rw [State.afterInt, State.enterHandler_trace, hstay]

/-- 60 R386: in mode 2 `LATCH` holds the address of the table entry, and the vector is the word there, which the read of
it leaves as it was. -/
theorem afterInt_of_im2 {s : State} (hmode : s.im = .im2) :
    s.afterInt.pc = s.afterInt.wordAt s.vectorEntry ∧ s.afterInt.latch = s.vectorEntry ∧
      s.afterInt.trace = s.pushedByInt.trace ++
        [⟨.mem, .read, s.vectorEntry, s.afterInt.byteAt s.vectorEntry, .data⟩,
          ⟨.mem, .read, s.vectorEntry + 1, s.afterInt.byteAt (s.vectorEntry + 1), .data⟩] := by
  have hpushed : s.pushedByInt.im = .im2 := s.pushedByInt_im.trans hmode
  have hread : s.pushedByInt.afterVector = (s.pushedByInt.writeLatch s.vectorEntry).afterRead16 s.vectorEntry := by
    rw [State.afterVector_of_im2 hpushed, State.pushedByInt_vectorEntry]
  refine ⟨?pc, ?latch, ?trace⟩
  case pc =>
    rw [State.afterInt_pc, State.intVector_of_im2 hpushed, State.pushedByInt_vectorEntry, State.wordAt, State.wordAt,
      byteAt_afterInt, byteAt_afterInt]
  case latch => rw [State.afterInt, State.enterHandler_latch, hread, State.afterRead16_latch, State.writeLatch_latch]
  case trace =>
    rw [byteAt_afterInt, byteAt_afterInt, State.afterInt, State.enterHandler_trace, hread, trace_afterRead16,
      State.writeLatch_trace, byteAt_writeLatch, byteAt_writeLatch]

/-- Settles O54: of the interrupted state the service saves the return address, in every mode; the modes differ in the
vector, the read of it and the cost. -/
theorem intService : Obligations.IntService := by
  intro s href hpowered hfaulted hreset hnmi hint hiff
  have hsaved := savedReturn_afterInt s
  obtain ⟨haf, hbc, hde, hhl, hix⟩ := hsaved.registers
  obtain ⟨hafAlt, hbcAlt, hdeAlt, hhlAlt, hi, him, hcleared, hawake, hpow, hfault, hres, hnmiKept, hintKept, hdata⟩ :=
    hsaved.control
  have hcycles {m : IntMode} (hmode : s.im = m) : s.afterInt.cycles = intCost m := hmode ▸ s.afterInt_cycles
  have hpushed {m : IntMode} (hmode : s.im = m) : s.pushedByInt.im = m := s.pushedByInt_im.trans hmode
  have hpushes := trace_pushedByInt s
  refine ⟨s.afterInt, step_of_int href hpowered hfaulted hreset hnmi hint hiff, hcleared, hawake, hintKept.trans hint,
    hsaved.sp, hsaved.high, hsaved.low, hsaved.frame, haf, hbc, hde, hhl, hix,
    ⟨hafAlt, hbcAlt, hdeAlt, hhlAlt, hi, him, rfl, rfl, hpow, hfault, hres, hnmiKept, hintKept, hdata⟩,
    fun hmode => ?im0, fun hmode => ?im1, fun hmode => ?im2⟩
  case im0 =>
    obtain ⟨hlatch, htrace⟩ := afterInt_of_ne_im2 fun htable => nomatch hmode.symm.trans htable
    have hpc : s.afterInt.pc = BitVec.ofNat 16 (8 * (s.intData.toNat / 8 % 8)) := by
      rw [State.afterInt_pc, State.intVector_of_im0 (hpushed hmode), State.pushedByInt_intData, zeroExt_and_0x38]
    exact ⟨hpc, hcycles hmode, hlatch, htrace.trans hpushes⟩
  case im1 =>
    obtain ⟨hlatch, htrace⟩ := afterInt_of_ne_im2 fun htable => nomatch hmode.symm.trans htable
    have hpc : s.afterInt.pc = 0x0038 := s.afterInt_pc.trans (State.intVector_of_im1 (hpushed hmode))
    exact ⟨hpc, hcycles hmode, hlatch, htrace.trans hpushes⟩
  case im2 =>
    obtain ⟨hpc, hlatch, htrace⟩ := afterInt_of_im2 hmode
    exact ⟨hpc, hcycles hmode, hlatch, htrace.trans (congrArg (· ++ _) hpushes)⟩

end Sys2Proof.Machine
end

section
/-! PROOFS. The service of `RESET` on any bus (70 R413), and the moves of the power (70 R410, R411). -/

namespace Sys2Proof.Machine

/-! ## RESET (70 R413) -/

/-- 41 R183: `RESET` comes before every other line and before the instruction. -/
theorem pollAndAct_of_reset {s : State} (hreset : s.resetLine = true) : s.pollAndAct = serviceReset s := by
  rw [State.pollAndAct, if_pos hreset]

/-- 70 R413: the service of `RESET` enters 0x0000 at the cost 3, without a bus and without a push. -/
theorem serviceReset_eq (s : State) : serviceReset s = .next ((s.resetCore.writePC 0x0000).addCycles 3) := rfl

/-- The state after the step that services `RESET`, on any bus. -/
def State.afterReset (s : State) : State := s.beginStep.resetCore.enterHandler 0x0000 3

theorem step_of_reset {s : State} (hpowered : s.powered = true) (hfaulted : s.faulted = false)
    (hreset : s.resetLine = true) : step s = .next s.afterReset :=
  step_of_service hpowered hfaulted (by decide)
    ((pollAndAct_of_reset (s := s.beginStep) hreset).trans (serviceReset_eq s.beginStep))

theorem afterReset_events (s : State) :
    s.afterReset.events = s.events ++ [.executingInstruction, .executedInstruction] :=
  List.append_assoc s.events [.executingInstruction] [.executedInstruction]

/-- The components that the step servicing `RESET` writes; every other one is as it was. -/
theorem afterReset_eq (s : State) : s.afterReset = { s with
    resetLine := false, halted := false, pc := 0x0000, sp := 0xFFFF, af := joinBytes s.readA 0x00
    iff := false, im := .im0, cycles := 3, pfx := .none
    events := s.events ++ [.executingInstruction, .executedInstruction] } := by
  rw [← afterReset_events]
  rfl

/-- Settles O52: the step is that of a service which enters 0x0000. -/
theorem resetService : Obligations.ResetService := fun s hpowered hfaulted hreset =>
  (step_of_reset hpowered hfaulted hreset).trans (congrArg Host.Outcome.next (afterReset_eq s))

/-! ## Power (70 R410, R411) -/

/-- 70 R410: powerOn leaves 0x00 in the stored flags byte, beside a free value in `A`. -/
theorem loByte_powerOn_af (s : State) : loByte s.powerOn.af = 0x00 := loByte_joinBytes _ _

/-- 10 R31: the flags byte after powerOn reads as 0x02, the bit that is always 1. -/
theorem readF_powerOn (s : State) : s.powerOn.readF = 0x02 := by
  rw [State.readF, loByte_powerOn_af]
  decide

/-- Settles O56: the flags byte is the low half of a pair and is read through the mask; every other value is one that
powerOn writes or keeps. -/
theorem powerMoves : Obligations.PowerMoves :=
  ⟨fun s => ⟨rfl, rfl, loByte_powerOn_af s, readF_powerOn s, rfl, rfl, rfl, rfl, rfl, rfl, rfl, rfl, rfl, rfl, rfl, rfl,
    rfl, rfl⟩, fun _ => rfl⟩

end Sys2Proof.Machine
end

section
/-! PROOFS. What a run of the engine is made of, on any bus: writes of the block's own registers and bus transactions
(20 R78). Every instruction, service and fetch is such a run, which is shown once; what a run keeps is shown once for
each of its steps. -/

namespace Sys2Proof.Machine

/-! ## The steps of a run -/

/-- A write of the block's own registers: memory, the map, the hooks, the lines, `powered`, `faulted` and `cycles` stay.
`mayHalt` says whether the write may enter Halted. -/
structure State.BlockUpdate (mayHalt : Prop) (s t : State) : Prop where
  mem : t.mem = s.mem
  map : t.map = s.map
  hooks : t.hooks = s.hooks
  resetLine : t.resetLine = s.resetLine
  nmiLine : t.nmiLine = s.nmiLine
  powered : t.powered = s.powered
  faulted : t.faulted = s.faulted
  cycles : t.cycles = s.cycles
  halted : t.halted = true → s.halted = true ∨ mayHalt

/-- A bus transaction that answers (20 R66, R67, R74, R75). -/
inductive State.Transacts (s t : State) : Prop where
  | memRead {a : Word} {g : Tag} {v : Byte} (h : memRead a g s = .ok v t)
  | memWrite {a : Word} {v : Byte} {g : Tag} (h : memWrite a v g s = .ok () t)
  | ioRead {p v : Byte} (h : ioRead p s = .ok v t)
  | ioWrite {p v : Byte} (h : ioWrite p v s = .ok () t)

/-- A bus transaction that raises the fault (20 R68). -/
inductive State.FailsWith (s : State) (f : Fault) : Prop where
  | memRead {a : Word} {g : Tag} (h : memRead a g s = .fault f)
  | memWrite {a : Word} {v : Byte} {g : Tag} (h : memWrite a v g s = .fault f)

/-- A run from one state to another: register writes and transactions, in any order. -/
inductive State.Reaches (mayHalt : Prop) (s : State) : State → Prop where
  | refl : State.Reaches mayHalt s s
  | update {t u : State} (h : State.Reaches mayHalt s t) (w : t.BlockUpdate mayHalt u) : State.Reaches mayHalt s u
  | transact {t u : State} (h : State.Reaches mayHalt s t) (w : t.Transacts u) : State.Reaches mayHalt s u

theorem State.BlockUpdate.mono {H H' : Prop} {s t : State} (h : s.BlockUpdate H t) (hH : H → H') :
    s.BlockUpdate H' t :=
  ⟨h.mem, h.map, h.hooks, h.resetLine, h.nmiLine, h.powered, h.faulted, h.cycles, fun e => (h.halted e).imp id hH⟩

theorem State.Reaches.mono {H H' : Prop} {s t : State} (h : s.Reaches H t) (hH : H → H') : s.Reaches H' t := by
  induction h with
  | refl => exact .refl
  | update _ w ih => exact ih.update (w.mono hH)
  | transact _ w ih => exact ih.transact w

theorem State.Reaches.trans {H : Prop} {s t u : State} (h : s.Reaches H t) (k : t.Reaches H u) : s.Reaches H u := by
  induction k with
  | refl => exact h
  | update _ w ih => exact ih.update w
  | transact _ w ih => exact ih.transact w

/-! ## What a transaction keeps -/

theorem State.Transacts.sameBlock {s t : State} (h : s.Transacts t) : SameBlock s t := by
  cases h with
  | memRead h => exact memRead_sameBlock h
  | memWrite h => exact memWrite_sameBlock h
  | ioRead h => exact ioRead_sameBlock h
  | ioWrite h => exact ioWrite_sameBlock h

theorem State.Transacts.wf {s t : State} (h : s.Transacts t) (hwf : Memory.wf s.mem = true) :
    Memory.wf t.mem = true := by
  cases h with
  | memRead h => exact memRead_wf h hwf
  | memWrite h => exact memWrite_wf h hwf
  | ioRead h => exact ioRead_wf h hwf
  | ioWrite h => exact ioWrite_wf h hwf

theorem State.Transacts.mapInBounds {s t : State} (h : s.Transacts t) (hmap : mapInBounds s.map = true) :
    mapInBounds t.map = true := by
  cases h with
  | memRead h => exact (memRead_inBounds hmap).keeps _ _ h
  | memWrite h => exact (memWrite_inBounds hmap).keeps _ _ h
  | ioRead h => exact (ioRead_inBounds hmap).keeps _ _ h
  | ioWrite h => exact (ioWrite_inBounds hmap).keeps _ _ h

theorem State.Transacts.keepsRaised {s t : State} (h : s.Transacts t) : s.keepsRaised t := by
  cases h with
  | memRead h => exact memRead_keepsRaised h
  | memWrite h => exact memWrite_keepsRaised h
  | ioRead h => exact ioRead_keepsRaised h
  | ioWrite h => exact ioWrite_keepsRaised h

theorem State.Transacts.onRefBus {s t : State} (h : s.Transacts t) (href : s.onRefBus) : t.onRefBus := by
  cases h with
  | memRead h => rw [memRead_ref href] at h; cases h; exact href
  | memWrite h => rw [memWrite_ref href] at h; cases h; exact href
  | ioRead h => rw [ioRead_ref href.2] at h; cases h; exact href
  | ioWrite h => rw [ioWrite_ref href.2] at h; cases h; exact href

/-! ## What a run keeps -/

theorem State.Reaches.powered {H : Prop} {s t : State} (h : s.Reaches H t) : t.powered = s.powered := by
  induction h with
  | refl => rfl
  | update _ w ih => exact w.powered.trans ih
  | transact _ w ih => exact w.sameBlock.powered.trans ih

theorem State.Reaches.cycles {H : Prop} {s t : State} (h : s.Reaches H t) : t.cycles = s.cycles := by
  induction h with
  | refl => rfl
  | update _ w ih => exact w.cycles.trans ih
  | transact _ w ih => exact w.sameBlock.cycles.trans ih

theorem State.Reaches.halted {H : Prop} {s t : State} (h : s.Reaches H t) (ht : t.halted = true) :
    s.halted = true ∨ H := by
  induction h with
  | refl => exact .inl ht
  | update _ w ih => exact (w.halted ht).elim ih .inr
  | transact _ w ih => exact ih (w.sameBlock.halted ▸ ht)

theorem State.Reaches.wf {H : Prop} {s t : State} (h : s.Reaches H t) (hwf : Memory.wf s.mem = true) :
    Memory.wf t.mem = true := by
  induction h with
  | refl => exact hwf
  | update _ w ih => exact w.mem ▸ ih
  | transact _ w ih => exact w.wf ih

theorem State.Reaches.mapInBounds {H : Prop} {s t : State} (h : s.Reaches H t) (hmap : mapInBounds s.map = true) :
    mapInBounds t.map = true := by
  induction h with
  | refl => exact hmap
  | update _ w ih => exact w.map ▸ ih
  | transact _ w ih => exact w.mapInBounds ih

theorem State.Reaches.keepsRaised {H : Prop} {s t : State} (h : s.Reaches H t) : s.keepsRaised t := by
  induction h with
  | refl => exact s.keepsRaised_refl
  | update _ w ih => exact State.keepsRaised_trans ih ⟨(w.resetLine.trans ·), (w.nmiLine.trans ·)⟩
  | transact _ w ih => exact State.keepsRaised_trans ih w.keepsRaised

theorem State.Reaches.onRefBus {H : Prop} {s t : State} (h : s.Reaches H t) (href : s.onRefBus) : t.onRefBus := by
  induction h with
  | refl => exact href
  | update _ w ih => exact ⟨w.map.trans ih.1, w.hooks.trans ih.2⟩
  | transact _ w ih => exact w.onRefBus ih

/-! ## How a transaction fails (60 R370, R372) -/

/-- A `ConfigurationError` that stops a machine in the state `s`, with the cost counted so far. -/
def Fault.Stops (f : Fault) (s : State) : Prop :=
  ∃ left kind a, f = .configurationError left kind a ∧ left.faulted = true ∧ left.powered = s.powered ∧
    left.cycles = s.cycles

theorem configFault_stops {α : Type} {kind : ConfigKind} {a : Word} {s t : State} {f : Fault} (hst : SameBlock s t)
    (h : (configFault kind a t : Res α) = .fault f) : f.Stops s := by
  cases h
  exact ⟨_, kind, a, rfl, rfl, hst.powered, hst.cycles⟩

theorem State.FailsWith.stops {s : State} {f : Fault} (h : s.FailsWith f) : f.Stops s := by
  cases h with
  | memRead h =>
    rename_i a _
    have hst := (writeAddress_sameBlock s a).trans (hook_sameBlock _ (.reading a))
    simp only [Machine.memRead] at h
    split at h
    · exact configFault_stops hst h
    · split at h
      · cases h
      · exact configFault_stops hst h
  | memWrite h =>
    rename_i a v _
    have hst := (writeAddress_sameBlock s a).trans ((writeData_sameBlock _ v).trans (hook_sameBlock _ (.writing a v)))
    simp only [Machine.memWrite] at h
    split at h
    · exact configFault_stops hst h
    · split at h
      · exact configFault_stops hst h
      · split at h
        · cases h
        · exact configFault_stops hst h

/-- 20 R65: no transaction fails on the REF bus. -/
theorem State.FailsWith.not_onRefBus {s : State} {f : Fault} (h : s.FailsWith f) : ¬ s.onRefBus := by
  intro href
  cases h with
  | memRead h => rw [memRead_ref href] at h; cases h
  | memWrite h => rw [memWrite_ref href] at h; cases h

/-- 20 R63: where the map is in bounds, no transaction fails out of bounds. -/
theorem State.FailsWith.ne_outOfBounds {s : State} {f : Fault} (h : s.FailsWith f)
    (hmap : Machine.mapInBounds s.map = true) (left : State) (a : Word) :
    f ≠ .configurationError left .outOfBounds a := by
  rintro rfl
  cases h with
  | memRead h => exact (memRead_inBounds hmap).never _ _ h
  | memWrite h => exact (memWrite_inBounds hmap).never _ _ h

/-! ## The register writes -/

section
variable (H : Prop) (s : State)

theorem blockUpdate_write8 (r : Reg8) (v : Byte) : s.BlockUpdate H (s.write8 r v) := by
  cases r <;> exact ⟨rfl, rfl, rfl, rfl, rfl, rfl, rfl, rfl, .inl⟩

theorem blockUpdate_write16 (r : Reg16) (w : Word) : s.BlockUpdate H (s.write16 r w) := by
  cases r <;> exact ⟨rfl, rfl, rfl, rfl, rfl, rfl, rfl, rfl, .inl⟩

theorem blockUpdate_writeStackReg (r : StackReg) (w : Word) : s.BlockUpdate H (s.writeStackReg r w) := by
  cases r <;> exact ⟨rfl, rfl, rfl, rfl, rfl, rfl, rfl, rfl, .inl⟩

theorem blockUpdate_writeA (v : Byte) : s.BlockUpdate H (s.writeA v) := ⟨rfl, rfl, rfl, rfl, rfl, rfl, rfl, rfl, .inl⟩

theorem blockUpdate_writeF (v : Byte) : s.BlockUpdate H (s.writeF v) := ⟨rfl, rfl, rfl, rfl, rfl, rfl, rfl, rfl, .inl⟩

theorem blockUpdate_writeSP (w : Word) : s.BlockUpdate H (s.writeSP w) := ⟨rfl, rfl, rfl, rfl, rfl, rfl, rfl, rfl, .inl⟩

theorem blockUpdate_writePC (w : Word) : s.BlockUpdate H (s.writePC w) := ⟨rfl, rfl, rfl, rfl, rfl, rfl, rfl, rfl, .inl⟩

theorem blockUpdate_writeLatch (w : Word) : s.BlockUpdate H (s.writeLatch w) :=
  ⟨rfl, rfl, rfl, rfl, rfl, rfl, rfl, rfl, .inl⟩

theorem blockUpdate_writeI (v : Byte) : s.BlockUpdate H (s.writeI v) := ⟨rfl, rfl, rfl, rfl, rfl, rfl, rfl, rfl, .inl⟩

theorem blockUpdate_writeIM (m : IntMode) : s.BlockUpdate H (s.writeIM m) :=
  ⟨rfl, rfl, rfl, rfl, rfl, rfl, rfl, rfl, .inl⟩

theorem blockUpdate_writeIFF (b : Bool) : s.BlockUpdate H (s.writeIFF b) :=
  ⟨rfl, rfl, rfl, rfl, rfl, rfl, rfl, rfl, .inl⟩

theorem blockUpdate_writePfx (p : PrefixState) : s.BlockUpdate H (s.writePfx p) :=
  ⟨rfl, rfl, rfl, rfl, rfl, rfl, rfl, rfl, .inl⟩

theorem blockUpdate_exchangeAF : s.BlockUpdate H s.exchangeAF := ⟨rfl, rfl, rfl, rfl, rfl, rfl, rfl, rfl, .inl⟩

theorem blockUpdate_exchangeBank : s.BlockUpdate H s.exchangeBank := ⟨rfl, rfl, rfl, rfl, rfl, rfl, rfl, rfl, .inl⟩

theorem blockUpdate_relativeJump (d : Byte) : s.BlockUpdate H (s.relativeJump d) :=
  ⟨rfl, rfl, rfl, rfl, rfl, rfl, rfl, rfl, .inl⟩

/-- 47 R342: the one write that enters Halted. -/
theorem blockUpdate_enterHalt (hH : H) (w : Word) : s.BlockUpdate H ((s.writePC w).writeHalted true) :=
  ⟨rfl, rfl, rfl, rfl, rfl, rfl, rfl, rfl, fun _ => .inr hH⟩

theorem blockUpdate_wake : s.BlockUpdate H s.wake :=
  ⟨s.wake_mem, s.wake_map, s.wake_hooks, s.wake_resetLine, s.wake_nmiLine, s.wake_powered, s.wake_faulted,
    s.wake_cycles, fun h => nomatch s.wake_halted.symm.trans h⟩

end

/-! ## Operations that run -/

/-- An operation that runs from `s`: its answers are reached, and it fails at a transaction of a state it reaches. -/
structure Res.Runs {α : Type} (r : Res α) (H : Prop) (s : State) : Prop where
  ok : ∀ a t, r = .ok a t → s.Reaches H t
  fault : ∀ f, r = .fault f → ∃ u, s.Reaches H u ∧ u.FailsWith f

section
variable {α β : Type} {H : Prop} {s t : State}

theorem Res.runs_ok (a : α) (h : s.Reaches H t) : (Res.ok a t).Runs H s where
  ok b u e := by cases e; exact h
  fault f e := by cases e

theorem Res.Runs.bind {r : Res α} {k : α → State → Res β} (h : r.Runs H s)
    (hk : ∀ a t, s.Reaches H t → (k a t).Runs H s) : (r.bind k).Runs H s := by
  cases r with
  | ok a t => exact hk a t (h.ok a t rfl)
  | fault f => exact ⟨fun b t e => (by cases e), fun g e => h.fault g (by cases e; rfl)⟩

/-- An operation whose answer a register write takes. -/
theorem Res.Runs.bind_update {r : Res α} {update : State → α → State} (h : r.Runs H s)
    (hu : ∀ (t : State) (a : α), t.BlockUpdate H (update t a)) : (r.bind fun a t => .ok () (update t a)).Runs H s :=
  h.bind fun a t ht => Res.runs_ok () (ht.update (hu t a))

theorem memRead_runs (h : s.Reaches H t) (a : Word) (g : Tag) : (memRead a g t).Runs H s :=
  ⟨fun _ _ e => h.transact (.memRead e), fun _ e => ⟨t, h, .memRead e⟩⟩

theorem memWrite_runs (h : s.Reaches H t) (a : Word) (v : Byte) (g : Tag) : (memWrite a v g t).Runs H s :=
  ⟨fun _ _ e => h.transact (.memWrite e), fun _ e => ⟨t, h, .memWrite e⟩⟩

theorem ioRead_runs (h : s.Reaches H t) (p : Byte) : (ioRead p t).Runs H s :=
  ⟨fun _ _ e => h.transact (.ioRead e), fun _ e => by cases e⟩

theorem ioWrite_runs (h : s.Reaches H t) (p v : Byte) : (ioWrite p v t).Runs H s :=
  ⟨fun _ _ e => h.transact (.ioWrite e), fun _ e => by cases e⟩

theorem memRead16_runs (h : s.Reaches H t) (a : Word) (g : Tag) : (memRead16 a g t).Runs H s :=
  (memRead_runs h a g).bind fun _ _ h1 => (memRead_runs h1 _ g).bind fun _ _ h2 => Res.runs_ok _ h2

theorem memWrite16_runs (h : s.Reaches H t) (a w : Word) (g : Tag) : (memWrite16 a w g t).Runs H s :=
  (memWrite_runs h a _ g).bind fun _ _ h1 => memWrite_runs h1 _ _ g

theorem push16_runs (h : s.Reaches H t) (w : Word) : (push16 w t).Runs H s :=
  (memWrite_runs (h.update (blockUpdate_writeSP H t _)) _ _ _).bind fun _ u h1 =>
    memWrite_runs (h1.update (blockUpdate_writeSP H u _)) _ _ _

theorem pop16_runs (h : s.Reaches H t) : (pop16 t).Runs H s :=
  (memRead_runs h _ _).bind fun _ u h1 =>
    (memRead_runs (h1.update (blockUpdate_writeSP H u _)) _ _).bind fun _ x h2 =>
      Res.runs_ok _ (h2.update (blockUpdate_writeSP H x _))

theorem pushAndGo_runs (h : s.Reaches H t) (w : Word) : (pushAndGo w t).Runs H s :=
  (push16_runs h _).bind_update fun u _ => blockUpdate_writePC H u w

theorem returnPC_runs (h : s.Reaches H t) : (returnPC t).Runs H s :=
  (pop16_runs h).bind_update fun u w => blockUpdate_writePC H u w

theorem readLoc_runs (h : s.Reaches H t) (l : Loc) : (readLoc l t).Runs H s := by
  cases l with
  | reg r => exact Res.runs_ok _ h
  | atHL => exact memRead_runs h _ _
  | atIX d => exact memRead_runs (h.update (blockUpdate_writeLatch H t _)) _ _

theorem writeLoc_runs (h : s.Reaches H t) (l : Loc) (v : Byte) : (writeLoc l v t).Runs H s := by
  cases l with
  | reg r => exact Res.runs_ok _ (h.update (blockUpdate_write8 H t r v))
  | atHL => exact memWrite_runs h _ _ _
  | atIX d => exact memWrite_runs (h.update (blockUpdate_writeLatch H t _)) _ _ _

theorem readSrc_runs (h : s.Reaches H t) (src : AluSrc) : (readSrc src t).Runs H s := by
  cases src with
  | loc l => exact readLoc_runs h l
  | imm n => exact Res.runs_ok _ h

/-- Reading an operand, writing a byte back and then the flags. -/
theorem modifyLoc_runs (l : Loc) (result : State → Byte → Byte × Byte) :
    ((readLoc l s).bind fun v s1 =>
      (writeLoc l (result s1 v).1 s1).bind fun _ s2 => .ok () (s2.writeF (result s1 v).2)).Runs H s :=
  (readLoc_runs .refl l).bind fun _ _ h1 =>
    (writeLoc_runs h1 l _).bind_update fun x _ => blockUpdate_writeF H x _

/-- Reading an operand and writing a byte back. -/
theorem rewriteLoc_runs (l : Loc) (result : Byte → Byte) :
    ((readLoc l s).bind fun v s1 => writeLoc l (result v) s1).Runs H s :=
  (readLoc_runs .refl l).bind fun _ _ h1 => writeLoc_runs h1 l _

theorem fetchByte_runs (h : s.Reaches H t) (g : Tag) : (fetchByte g t).Runs H s :=
  (memRead_runs h _ g).bind fun _ u h1 => Res.runs_ok _ (h1.update (blockUpdate_writePC H u _))

theorem fetchWord_runs (h : s.Reaches H t) : (fetchWord t).Runs H s :=
  (fetchByte_runs h _).bind fun _ _ h1 => (fetchByte_runs h1 _).bind fun _ _ h2 => Res.runs_ok _ h2

theorem fetchDisplacement_runs (h : s.Reaches H t) : (fetchDisplacement t).Runs H s :=
  (fetchByte_runs h _).bind fun _ u h1 => Res.runs_ok _ (h1.update (blockUpdate_writeLatch H u _))

theorem fetchOperands_runs (h : s.Reaches H t) (arm : Arm) : (fetchOperands arm t).Runs H s := by
  cases arm with
  | undefined => exact Res.runs_ok _ h
  | op i => exact Res.runs_ok _ h
  | byte f => exact (fetchByte_runs h _).bind fun _ _ h1 => Res.runs_ok _ h1
  | word f => exact (fetchWord_runs h).bind fun _ _ h1 => Res.runs_ok _ h1
  | disp f => exact (fetchDisplacement_runs h).bind fun _ _ h1 => Res.runs_ok _ h1
  | dispByte f =>
    exact (fetchDisplacement_runs h).bind fun _ _ h1 => (fetchByte_runs h1 _).bind fun _ _ h2 => Res.runs_ok _ h2

theorem fetchUnit_runs (h : s.Reaches H t) : (fetchUnit t).Runs H s :=
  (fetchByte_runs h _).bind fun _ _ h1 => fetchOperands_runs h1 _

end

/-! ## Instructions that run -/

/-- The cost of a complete instruction or of a service (70 R425, R430). -/
abbrev costInRange (n : Nat) : Prop := 3 ≤ n ∧ n ≤ 27

/-- An instruction, or the action of a step, that runs from `s` and then adds a cost. `noArm` says whether it may be
stopped by a byte without an arm (30 R121). -/
structure Ran (o : Out) (mayHalt noArm : Prop) (cost : Nat → Prop) (s : State) : Prop where
  next : ∀ t, o = .next t → ∃ u n, s.Reaches mayHalt u ∧ t = u.addCycles n ∧ cost n
  fault : ∀ f, o = .fault f → ∃ u, s.Reaches mayHalt u ∧ (u.FailsWith f ∨
    noArm ∧ ∃ first bytes, f = .decodeFailure { u with faulted := true, pfx := .none } first bytes)
  refused : ∀ r, o ≠ .refused r

section
variable {H H' noArm noArm' : Prop} {cost cost' : Nat → Prop} {s u : State}

theorem ran_next {n : Nat} (h : s.Reaches H u) (hn : cost n) : Ran (.next (u.addCycles n)) H noArm cost s where
  next t e := by cases e; exact ⟨u, n, h, rfl, hn⟩
  fault f e := by cases e
  refused r e := by cases e

theorem ran_free (h : s.Reaches H u) (hn : cost 0) : Ran (.next u) H noArm cost s := ran_next h hn

theorem ran_fault {f : Fault} (h : ∃ u, s.Reaches H u ∧ u.FailsWith f) : Ran (.fault f) H noArm cost s where
  next t e := by cases e
  fault g e := by
    cases e
    obtain ⟨u, hu, hf⟩ := h
    exact ⟨u, hu, .inl hf⟩
  refused r e := by cases e

theorem Res.Runs.finish {r : Res Unit} {n : Nat} (h : r.Runs H s) (hn : cost n) :
    Ran (r.finish n) H noArm cost s := by
  cases r with
  | ok a t => exact ran_next (h.ok a t rfl) hn
  | fault f => exact ran_fault (h.fault f rfl)

theorem Ran.mono {o : Out} (h : Ran o H noArm cost s) (hH : H → H') (harm : noArm → noArm')
    (hcost : ∀ n, cost n → cost' n) : Ran o H' noArm' cost' s where
  next t e := by
    obtain ⟨u, n, hu, ht, hn⟩ := h.next t e
    exact ⟨u, n, hu.mono hH, ht, hcost n hn⟩
  fault f e := by
    obtain ⟨u, hu, hf⟩ := h.fault f e
    exact ⟨u, hu.mono hH, hf.imp id fun k => ⟨harm k.1, k.2⟩⟩
  refused := h.refused

/-- What runs from a state that is reached from `s` runs from `s`. -/
theorem Ran.of_reaches {o : Out} (h : Ran o H noArm cost u) (hsu : s.Reaches H u) : Ran o H noArm cost s where
  next t e := by
    obtain ⟨v, n, hv, ht, hn⟩ := h.next t e
    exact ⟨v, n, hsu.trans hv, ht, hn⟩
  fault f e := by
    obtain ⟨v, hv, hf⟩ := h.fault f e
    exact ⟨v, hsu.trans hv, hf⟩
  refused := h.refused

end

/-! ## The costs (70 R430) -/

theorem costInRange_cost8 {a b c : Nat} (ha : costInRange a) (hb : costInRange b) (hc : costInRange c) (l : Loc) :
    costInRange (cost8 a b c l) := by
  cases l <;> assumption

theorem costInRange_costHLX {a b : Nat} (ha : costInRange a) (hb : costInRange b) (x : HLX) :
    costInRange (costHLX a b x) := by
  cases x <;> assumption

theorem costInRange_cost16 {a b : Nat} (ha : costInRange a) (hb : costInRange b) (r : Reg16) :
    costInRange (cost16 a b r) := by
  cases r <;> assumption

theorem costInRange_costStack {a b : Nat} (ha : costInRange a) (hb : costInRange b) (r : StackReg) :
    costInRange (costStack a b r) := by
  cases r <;> assumption

theorem costInRange_costAlu (src : AluSrc) : costInRange (costAlu src) := by
  cases src with
  | imm n => exact (by decide : costInRange 7)
  | loc l => exact costInRange_cost8 (by decide) (by decide) (by decide) l

end Sys2Proof.Machine
end

section
/-! PROOFS. Every complete instruction runs, by its form, and adds a cost of 3 to 27. -/

namespace Sys2Proof.Machine

/-! ## Every instruction runs -/

/-- A form whose operation runs, with the cost of the form. -/
theorem ran_of_finish {i : Instr} {H noArm : Prop} {s : State} {r : Res Unit} {n : Nat}
    (hexec : exec i s = r.finish n) (h : r.Runs H s) (hn : costInRange n) : Ran (exec i s) H noArm costInRange s :=
  hexec ▸ h.finish hn

/-- A form that writes registers only. -/
theorem ran_of_update {i : Instr} {H noArm : Prop} {s u : State} {n : Nat}
    (hexec : exec i s = .next (u.addCycles n)) (h : s.BlockUpdate H u) (hn : costInRange n) :
    Ran (exec i s) H noArm costInRange s :=
  hexec ▸ ran_next (State.Reaches.refl.update h) hn

theorem jumpCond_ran (H noArm : Prop) (cc : Cond) (nn : Word) (s : State) :
    Ran (exec (Form.jumpCond nn cc) s) H noArm costInRange s := by
  have hlatch := State.Reaches.refl.update (blockUpdate_writeLatch H s nn)
  rw [exec_jumpCond, jumpCond]
  split
  · exact ran_next (hlatch.update (blockUpdate_writePC H _ nn)) (by decide)
  · exact ran_next hlatch (by decide)

theorem jumpRelCond_ran (H noArm : Prop) (cc : RelCond) (d : Byte) (s : State) :
    Ran (exec (Form.jumpRelCond d cc) s) H noArm costInRange s := by
  rw [exec_jumpRelCond, jumpRelCond]
  split
  · exact ran_next (State.Reaches.refl.update (blockUpdate_relativeJump H s d)) (by decide)
  · exact ran_next .refl (by decide)

theorem decJump_ran (H noArm : Prop) (d : Byte) (s : State) : Ran (exec (.djnz d) s) H noArm costInRange s := by
  have hcount := State.Reaches.refl.update (blockUpdate_write8 H s .b (s.read8 .b + 0xFF))
  rw [exec_djnz, decJump]
  split
  · exact ran_next (hcount.update (blockUpdate_relativeJump H _ d)) (by decide)
  · exact ran_next hcount (by decide)

theorem callCond_ran (H noArm : Prop) (cc : Cond) (nn : Word) (s : State) :
    Ran (exec (Form.callCond nn cc) s) H noArm costInRange s := by
  have hlatch := State.Reaches.refl.update (blockUpdate_writeLatch H s nn)
  rw [exec_callCond, callCond]
  split
  · exact (pushAndGo_runs hlatch nn).finish (by decide)
  · exact ran_next hlatch (by decide)

theorem retCond_ran (H noArm : Prop) (cc : Cond) (s : State) :
    Ran (exec (Form.retCond cc) s) H noArm costInRange s := by
  rw [exec_retCond, retCond]
  split
  · exact (returnPC_runs .refl).finish (by decide)
  · exact ran_next .refl (by decide)

/-- 41 R193 and 70 R430: a complete instruction runs and adds a cost of 3 to 27. Only `HALT` may enter Halted. -/
theorem exec_ran {i : Instr} (hi : WellFormed i = true) : ∀ s, Ran (exec i s) (i = .halt) False costInRange s := by
  refine instr_by_form (motive := fun i => ∀ s, Ran (exec i s) (i = .halt) False costInRange s) ?load8 ?storeHL
    ?storeIX ?loadImm ?loadPair ?loadMem16 ?storeMem16 ?loadSP ?push ?pop ?alu ?inc8 ?dec8 ?inc16 ?dec16 ?add16 ?rot
    ?bit ?res ?set ?jumpCond ?jumpReg ?jumpRelCond ?callCond ?retCond ?restart ?intMode ?nop ?ldAtBC ?exAF ?ldAatBC
    ?djnz ?ldAtDE ?jr ?ldAatDE ?cpl ?ldMemA ?scf ?ldAmem ?ccf ?halt ?jp ?ret ?call ?out ?exx ?inA ?ldI ?reti ?di ?ei i hi
  case load8 =>
    exact fun r l s => ran_of_finish (exec_load8 r l s)
      ((readLoc_runs .refl l).bind_update fun t v => blockUpdate_write8 _ t r v)
      (costInRange_cost8 (by decide) (by decide) (by decide) l)
  case storeHL => exact fun r s => ran_of_finish (exec_storeHL r s) (writeLoc_runs .refl _ _) (by decide)
  case storeIX => exact fun d r s => ran_of_finish (exec_storeIX r d s) (writeLoc_runs .refl _ _) (by decide)
  case loadImm =>
    exact fun n l s => ran_of_finish (exec_loadImm l n s) (writeLoc_runs .refl l n)
      (costInRange_cost8 (by decide) (by decide) (by decide) l)
  case loadPair =>
    exact fun nn r s => ran_of_update (exec_loadPair r nn s) (blockUpdate_write16 _ s r nn)
      (costInRange_cost16 (by decide) (by decide) r)
  case loadMem16 =>
    exact fun nn x s => ran_of_finish (exec_loadMem16 x nn s)
      ((memRead16_runs (.update .refl (blockUpdate_writeLatch _ s nn)) nn _).bind_update fun t w =>
        blockUpdate_write16 _ t (hlxReg x) w)
      (costInRange_costHLX (by decide) (by decide) x)
  case storeMem16 =>
    exact fun nn x s => ran_of_finish (exec_storeMem16 x nn s)
      (memWrite16_runs (.update .refl (blockUpdate_writeLatch _ s nn)) nn _ _)
      (costInRange_costHLX (by decide) (by decide) x)
  case loadSP =>
    exact fun x s => ran_of_update (exec_loadSP x s) (blockUpdate_writeSP _ s _)
      (costInRange_costHLX (by decide) (by decide) x)
  case push =>
    exact fun r s => ran_of_finish (exec_push r s) (push16_runs .refl _)
      (costInRange_costStack (by decide) (by decide) r)
  case pop =>
    exact fun r s => ran_of_finish (exec_pop r s)
      ((pop16_runs .refl).bind_update fun t w => blockUpdate_writeStackReg _ t r w)
      (costInRange_costStack (by decide) (by decide) r)
  case alu =>
    exact fun op src i h s => ran_of_finish (exec_alu h s)
      ((readSrc_runs .refl src).bind fun v t ht =>
        Res.runs_ok () ((ht.update (blockUpdate_writeA _ t _)).update (blockUpdate_writeF _ _ _)))
      (costInRange_costAlu src)
  case inc8 =>
    exact fun l s => ran_of_finish (exec_inc8 l s) (modifyLoc_runs l fun t v => incFlags t.readF v)
      (costInRange_cost8 (by decide) (by decide) (by decide) l)
  case dec8 =>
    exact fun l s => ran_of_finish (exec_dec8 l s) (modifyLoc_runs l fun t v => decFlags t.readF v)
      (costInRange_cost8 (by decide) (by decide) (by decide) l)
  case inc16 =>
    exact fun r s => ran_of_update (exec_inc16 r s) (blockUpdate_write16 _ s r _)
      (costInRange_cost16 (by decide) (by decide) r)
  case dec16 =>
    exact fun r s => ran_of_update (exec_dec16 r s) (blockUpdate_write16 _ s r _)
      (costInRange_cost16 (by decide) (by decide) r)
  case add16 =>
    exact fun x p s => (exec_add16 x p s) ▸ ran_next
      ((State.Reaches.refl.update (blockUpdate_write16 _ s _ _)).update (blockUpdate_writeF _ _ _))
      (costInRange_costHLX (by decide) (by decide) x)
  case rot =>
    exact fun op l s => ran_of_finish (exec_rot op l s)
      (modifyLoc_runs l fun t v =>
        let result := rotate op (flag t.readF maskC) v
        (result.1, shiftFlags t.readF result.1 result.2))
      (costInRange_cost8 (by decide) (by decide) (by decide) l)
  case bit =>
    exact fun y l s => ran_of_finish (exec_bit y l s)
      ((readLoc_runs .refl l).bind_update fun t v => blockUpdate_writeF _ t _)
      (costInRange_cost8 (by decide) (by decide) (by decide) l)
  case res =>
    exact fun y l s => ran_of_finish (exec_res y l s) (rewriteLoc_runs l fun v => resetBit v y)
      (costInRange_cost8 (by decide) (by decide) (by decide) l)
  case set =>
    exact fun y l s => ran_of_finish (exec_set y l s) (rewriteLoc_runs l fun v => setBit v y)
      (costInRange_cost8 (by decide) (by decide) (by decide) l)
  case jumpCond => exact fun nn cc s => jumpCond_ran _ _ cc nn s
  case jumpReg =>
    exact fun x s => ran_of_update (exec_jumpReg x s) (blockUpdate_writePC _ s _)
      (costInRange_costHLX (by decide) (by decide) x)
  case jumpRelCond => exact fun d cc s => jumpRelCond_ran _ _ cc d s
  case callCond => exact fun nn cc s => callCond_ran _ _ cc nn s
  case retCond => exact fun cc s => retCond_ran _ _ cc s
  case restart => exact fun y s => ran_of_finish (exec_restart y s) (pushAndGo_runs .refl _) (by decide)
  case intMode => exact fun m s => ran_of_update (exec_intMode m s) (blockUpdate_writeIM _ s m) (by decide)
  case nop => exact fun s => ran_next (u := s) .refl (by decide)
  case ldAtBC =>
    exact fun s => ran_of_finish (r := memWrite s.bc s.readA .data s) rfl (memWrite_runs .refl _ _ _) (by decide)
  case ldAtDE =>
    exact fun s => ran_of_finish (r := memWrite s.de s.readA .data s) rfl (memWrite_runs .refl _ _ _) (by decide)
  case exAF => exact fun s => ran_of_update rfl (blockUpdate_exchangeAF _ s) (by decide)
  case exx => exact fun s => ran_of_update rfl (blockUpdate_exchangeBank _ s) (by decide)
  case ldAatBC =>
    exact fun s => ran_of_finish rfl ((memRead_runs .refl s.bc .data).bind_update fun t v => blockUpdate_writeA _ t v)
      (by decide)
  case ldAatDE =>
    exact fun s => ran_of_finish rfl ((memRead_runs .refl s.de .data).bind_update fun t v => blockUpdate_writeA _ t v)
      (by decide)
  case djnz => exact fun d s => decJump_ran _ _ d s
  case jr => exact fun d s => ran_of_update rfl (blockUpdate_relativeJump _ s d) (by decide)
  case cpl => exact fun s => ran_of_update rfl (blockUpdate_writeA _ s _) (by decide)
  case scf => exact fun s => ran_of_update rfl (blockUpdate_writeF _ s _) (by decide)
  case ccf => exact fun s => ran_of_update rfl (blockUpdate_writeF _ s _) (by decide)
  case ldMemA =>
    exact fun nn s => ran_of_finish (r := memWrite nn s.readA .data (s.writeLatch nn)) rfl
      (memWrite_runs (.update .refl (blockUpdate_writeLatch _ s nn)) _ _ _) (by decide)
  case ldAmem =>
    exact fun nn s => ran_of_finish rfl
      ((memRead_runs (.update .refl (blockUpdate_writeLatch _ s nn)) nn .data).bind_update fun t v =>
        blockUpdate_writeA _ t v) (by decide)
  case halt => exact fun s => ran_of_update rfl (blockUpdate_enterHalt _ s rfl _) (by decide)
  case jp =>
    exact fun nn s => ran_next
      ((State.Reaches.refl.update (blockUpdate_writeLatch _ s nn)).update (blockUpdate_writePC _ _ nn)) (by decide)
  case ret => exact fun s => ran_of_finish (r := returnPC s) rfl (returnPC_runs .refl) (by decide)
  case call =>
    exact fun nn s => ran_of_finish (r := pushAndGo nn (s.writeLatch nn)) rfl
      (pushAndGo_runs (.update .refl (blockUpdate_writeLatch _ s nn)) nn) (by decide)
  case out => exact fun n s => ran_of_finish (r := ioWrite n s.readA s) rfl (ioWrite_runs .refl n _) (by decide)
  case inA =>
    exact fun n s => ran_of_finish rfl ((ioRead_runs .refl n).bind_update fun t v => blockUpdate_writeA _ t v)
      (by decide)
  case ldI => exact fun s => ran_of_update rfl (blockUpdate_writeI _ s _) (by decide)
  case reti =>
    exact fun s => ran_of_finish rfl
      ((returnPC_runs .refl).bind_update fun t (_ : Unit) => blockUpdate_writeIFF _ t true) (by decide)
  case di => exact fun s => ran_of_update rfl (blockUpdate_writeIFF _ s false) (by decide)
  case ei => exact fun s => ran_of_update rfl (blockUpdate_writeIFF _ s true) (by decide)

end Sys2Proof.Machine
end

section
/-! PROOFS. The action of a step runs, on any bus, whatever bytes it fetches. From that: the cost of a step, how it can
stop, and what it keeps (41 section 4; 60 section 1 and R400). -/

namespace Sys2Proof.Machine

/-! ## The rounds of an instruction (41 R185) -/

theorem isPrefix_iff (i : Instr) : i.isPrefix = true ↔ i = .bitPrefix ∨ i = .indexPrefix := by
  unfold Instr.isPrefix
  split <;> simp_all

theorem wellFormed_of_not_isPrefix {i : Instr} (h : ¬ i.isPrefix = true) : WellFormed i = true := by
  simp [WellFormed, h]

theorem isPrefix_of_wellFormed {i : Instr} (h : WellFormed i = true) : ¬ i.isPrefix = true := by
  simpa [WellFormed] using h

/-- 30 R121: the byte 0xDD selects the index table, or has no arm. -/
theorem takeIndexPrefix_ran (s : State) : Ran (takeIndexPrefix s) True True (· = 0) s := by
  have hstuck (first : Word) (bytes : List Byte) :
      Ran (.fault (.decodeFailure { s with faulted := true, pfx := .none } first bytes)) True True (· = 0) s :=
    ⟨fun t e => (by cases e), fun f e => ⟨s, .refl, .inr ⟨trivial, first, bytes, by cases e; rfl⟩⟩,
      fun r e => by cases e⟩
  unfold takeIndexPrefix
  split
  · exact ran_free (.update .refl (blockUpdate_writePfx _ s _)) rfl
  · exact ran_free (.update .refl (blockUpdate_writePfx _ s _)) rfl
  · exact hstuck _ _
  · exact hstuck _ _

/-- 30 R122: the byte 0xCB selects one of the bit tables. -/
theorem takeBitPrefix_ran (s : State) : Ran (takeBitPrefix s) True True (· = 0) s := by
  have hindexed : Ran (((fetchDisplacement s).bind fun d s1 => .ok () (s1.writePfx (.indexBit d))).finish 0)
      True True (· = 0) s :=
    ((fetchDisplacement_runs .refl).bind_update fun t d => blockUpdate_writePfx True t (.indexBit d)).finish rfl
  unfold takeBitPrefix
  split
  · exact ran_free (.update .refl (blockUpdate_writePfx _ s _)) rfl
  · exact ran_free (.update .refl (blockUpdate_writePfx _ s _)) rfl
  · exact hindexed
  · exact hindexed

/-- 47 R349: the rows 0xDD and 0xCB of the opcode table are run at no cost. -/
theorem exec_isPrefix_ran {i : Instr} (hi : i.isPrefix = true) (s : State) : Ran (exec i s) True True (· = 0) s := by
  obtain rfl | rfl := (isPrefix_iff i).1 hi
  · exact takeBitPrefix_ran s
  · exact takeIndexPrefix_ran s

/-- The cost of the action of a step: none where a byte has no arm (41 R194). -/
abbrev actionCost (n : Nat) : Prop := costInRange n ∨ n = 0

theorem executeUnit_ran {again : State → Out} (hagain : ∀ t, Ran (again t) True True actionCost t) (s : State) :
    Ran (executeUnit again s) True True actionCost s := by
  have hfetch : (fetchUnit s).Runs True s := fetchUnit_runs .refl
  unfold executeUnit
  split
  · next f hf => exact ran_fault (hfetch.fault f hf)
  · next t ht => exact ran_free (hfetch.ok _ t ht) (.inr rfl)
  · next i t ht =>
    refine Ran.of_reaches ?_ (hfetch.ok _ t ht)
    by_cases hi : i.isPrefix = true
    · have hrow := exec_isPrefix_ran hi t
      rw [if_pos hi]
      cases he : exec i t with
      | next u =>
        obtain ⟨v, n, hv, rfl, rfl⟩ := hrow.next u he
        exact (hagain v).of_reaches hv
      | fault f =>
        exact ⟨fun u e => (by cases e), fun g e => hrow.fault g (he.trans (by cases e; rfl)), fun r e => by cases e⟩
      | refused r => exact absurd he (hrow.refused r)
    · rw [if_neg hi]
      exact (exec_ran (wellFormed_of_not_isPrefix hi) t).mono (fun _ => trivial) False.elim fun _ => .inl

theorem execute_ran (s : State) : Ran (execute s) True True actionCost s :=
  (executeUnit_ran (executeUnit_ran (executeUnit_ran fun _ => ran_free .refl (.inr rfl))) _).of_reaches
    (.update .refl (blockUpdate_writePfx _ s _))

/-! ## The action of a step (41 R183) -/

/-- The state in which the line that the step services has been lowered (70 R413, 60 R382). -/
def State.acknowledged (s : State) : State :=
  if s.resetLine then s.drive .reset false else if s.nmiLine then s.drive .nmi false else s

theorem acknowledged_of_lowered {s : State} (hreset : s.resetLine = false) (hnmi : s.nmiLine = false) :
    s.acknowledged = s := (if_neg (by simp [hreset])).trans (if_neg (by simp [hnmi]))

/-- Only a line is lowered. -/
theorem acknowledged_keeps (s : State) : s.acknowledged.mem = s.mem ∧ s.acknowledged.map = s.map ∧
    s.acknowledged.powered = s.powered ∧ s.acknowledged.cycles = s.cycles := by
  unfold State.acknowledged
  split
  · exact ⟨rfl, rfl, rfl, rfl⟩
  · split <;> exact ⟨rfl, rfl, rfl, rfl⟩

theorem saveReturn_runs {H : Prop} {s t : State} (h : s.Reaches H t) : (saveReturn t).Runs H s := push16_runs h _

theorem serviceReset_ran {H noArm : Prop} {cost : Nat → Prop} (hcost : cost 3) (s : State) :
    Ran (serviceReset s) H noArm cost (s.drive .reset false) :=
  ran_next (.update .refl ⟨rfl, rfl, rfl, rfl, rfl, rfl, rfl, rfl, nofun⟩) hcost

/-- 60 R382: the service of `NMI`, on any bus. -/
theorem serviceNmi_ran {H noArm : Prop} {cost : Nat → Prop} (hcost : cost 11) (s : State) :
    Ran (serviceNmi s) H noArm cost (s.drive .nmi false) :=
  Res.Runs.finish ((saveReturn_runs (.update .refl (blockUpdate_wake H _))).bind_update fun t _ =>
    blockUpdate_writePC H t _) hcost

theorem serviceNmi_pc {s t : State} (h : serviceNmi s = .next t) : t.pc = 0x0066 := by
  obtain ⟨u, hu, rfl⟩ := Res.finish_eq_next h
  obtain ⟨_, v, _, hv⟩ := Res.bind_eq_ok hu
  cases hv
  rfl

/-- 60 R383: the service of `INT`, on any bus. -/
theorem serviceInt_ran {H noArm : Prop} {cost : Nat → Prop} (h13 : cost 13) (h19 : cost 19) (s : State) :
    Ran (serviceInt s) H noArm cost s := by
  have hawake : s.Reaches H (s.wake.writeIFF false) :=
    (State.Reaches.refl.update (blockUpdate_wake H s)).update (blockUpdate_writeIFF H _ false)
  have hsaved := saveReturn_runs hawake
  unfold serviceInt
  dsimp only
  split
  · exact (hsaved.bind_update fun t _ => blockUpdate_writePC H t _).finish h13
  · exact (hsaved.bind_update fun t _ => blockUpdate_writePC H t _).finish h13
  · refine Res.Runs.finish (hsaved.bind fun _ t ht => ?_) h19
    exact (memRead16_runs (ht.update (blockUpdate_writeLatch H t _)) _ _).bind_update fun u w =>
      blockUpdate_writePC H u w

/-- 41 R183: whichever of the five things a step does, it runs once its line is lowered. -/
theorem pollAndAct_ran (s : State) : Ran s.pollAndAct True True actionCost s.acknowledged := by
  unfold State.pollAndAct State.acknowledged
  split
  · exact serviceReset_ran (.inl (by decide)) s
  · split
    · exact serviceNmi_ran (.inl (by decide)) s
    · split
      · exact serviceInt_ran (.inl (by decide)) (.inl (by decide)) s
      · split
        · exact ran_next .refl (.inl (by decide))
        · exact execute_ran s

/-! ## What a step can do (41 R180, R194) -/

/-- The end of a step, where it goes on. -/
theorem endStep_eq_next {start t : State} {o : Out} (h : endStep start o = .next t) :
    ∃ u, o = .next u ∧ u.cycles ≠ 0 ∧ t = (u.emit .executedInstruction).writePfx .none := by
  cases o with
  | next u =>
    by_cases hcost : u.cycles = 0
    · cases (if_pos hcost).symm.trans h
    · rw [endStep_next_of_cost hcost] at h
      cases h
      exact ⟨u, rfl, hcost, rfl⟩
  | fault f => cases h
  | refused r => cases h

/-- The end of a step, where it stops. -/
theorem endStep_eq_fault {start : State} {f : Fault} {o : Out} (h : endStep start o = .fault f) :
    o = .fault f ∨ ∃ u first bytes, o = .next u ∧
      f = .decodeFailure { (u.emit .executedInstruction).writePfx .none with faulted := true } first bytes := by
  cases o with
  | next u =>
    by_cases hcost : u.cycles = 0
    · cases (if_pos hcost).symm.trans h
      exact .inr ⟨u, _, _, rfl, rfl⟩
    · rw [endStep_next_of_cost hcost] at h
      cases h
  | fault g => cases h; exact .inl rfl
  | refused r => cases h

/-- What a step that goes on can do: nothing, where the machine is idle; else an action that runs and adds a cost of 3
to 27. -/
theorem step_eq_next {s t : State} (h : step s = .next t) :
    ((s.powered = false ∨ s.faulted = true) ∧ t = s) ∨
    (s.powered = true ∧ s.faulted = false ∧ ∃ u n, s.beginStep.pollAndAct = .next (u.addCycles n) ∧
      s.beginStep.acknowledged.Reaches True u ∧ costInRange n ∧
      t = ((u.addCycles n).emit .executedInstruction).writePfx .none) := by
  by_cases hidle : s.powered = false ∨ s.faulted = true
  · rw [step_of_idle hidle] at h
    cases h
    exact .inl ⟨hidle, rfl⟩
  · obtain ⟨hpowered, hfaulted⟩ : s.powered = true ∧ s.faulted = false := by simpa using hidle
    rw [step_of_powered hpowered hfaulted] at h
    obtain ⟨_, hact, hcycles, rfl⟩ := endStep_eq_next h
    obtain ⟨u, n, hu, rfl, hn⟩ := (pollAndAct_ran s.beginStep).next _ hact
    refine .inr ⟨hpowered, hfaulted, u, n, hact, hu, hn.resolve_right fun hzero => hcycles ?_, rfl⟩
    have hstart : u.cycles = 0 := hu.cycles.trans (acknowledged_keeps s.beginStep).2.2.2
    rw [State.addCycles_cycles, hstart, hzero]

/-- How a step can stop: by `DecodeFailure`, or at a bus transaction of its action. -/
theorem step_eq_fault {s : State} {f : Fault} (h : step s = .fault f) :
    s.powered = true ∧ ∃ u, s.beginStep.acknowledged.Reaches True u ∧ (u.FailsWith f ∨
      ∃ left first bytes, f = .decodeFailure left first bytes ∧ left.faulted = true ∧ left.powered = u.powered) := by
  by_cases hidle : s.powered = false ∨ s.faulted = true
  · rw [step_of_idle hidle] at h
    cases h
  · obtain ⟨hpowered, hfaulted⟩ : s.powered = true ∧ s.faulted = false := by simpa using hidle
    rw [step_of_powered hpowered hfaulted] at h
    have hran := pollAndAct_ran s.beginStep
    refine ⟨hpowered, ?_⟩
    obtain hact | ⟨_, first, bytes, hact, rfl⟩ := endStep_eq_fault h
    · obtain ⟨u, hu, hf | ⟨-, first, bytes, rfl⟩⟩ := hran.fault f hact
      · exact ⟨u, hu, .inl hf⟩
      · exact ⟨u, hu, .inr ⟨_, first, bytes, rfl, rfl, rfl⟩⟩
    · obtain ⟨u, n, hu, rfl, -⟩ := hran.next _ hact
      exact ⟨u, hu, .inr ⟨_, first, bytes, rfl, rfl, rfl⟩⟩

/-! ## The obligations -/

/-- Settles O9: a step counts from 0, and its action adds a cost of 3 to 27 or none; with none the step stops. -/
theorem stepCostBounds : Obligations.StepCostBounds := by
  intro s t hpowered hfaulted h
  obtain ⟨hidle, -⟩ | ⟨-, -, u, n, -, hu, hn, rfl⟩ := step_eq_next h
  · simp [hpowered, hfaulted] at hidle
  · have hstart : u.cycles = 0 := hu.cycles.trans (acknowledged_keeps s.beginStep).2.2.2
    have hcycles : (((u.addCycles n).emit .executedInstruction).writePfx .none).cycles = n :=
      (congrArg (· + n) hstart).trans (Nat.zero_add n)
    rwa [hcycles]

/-- Settles O10: both ways to stop leave the machine powered and faulted, where a step is idle. -/
theorem faultStopsTheMachine : Obligations.FaultStopsTheMachine := by
  intro s f h
  obtain ⟨hpowered, u, hu, hstop⟩ := step_eq_fault h
  have hu' : u.powered = true := (hu.powered.trans (acknowledged_keeps s.beginStep).2.2.1).trans hpowered
  obtain hfail | ⟨left, first, bytes, rfl, hleft, hpow⟩ := hstop
  · obtain ⟨left, kind, a, rfl, hleft, hpow, -⟩ := hfail.stops
    exact .inr ⟨left, kind, a, rfl, hleft, hpow.trans hu', step_of_idle (.inr hleft)⟩
  · exact .inl ⟨left, first, bytes, rfl, hleft, hpow.trans hu', step_of_idle (.inr hleft)⟩

/-- Settles O11: an instruction stops only at a transaction, and on the REF bus none fails. -/
theorem everyInstructionRunsOnRefBus : Obligations.EveryInstructionRunsOnRefBus := by
  refine ⟨fun i s hi href => ?runs, fun i hi s f hfault => ?stops, fun i s r => ?refused⟩
  case runs =>
    have hran := exec_ran hi s
    cases hexec : exec i s with
    | next t =>
      obtain ⟨u, n, hu, rfl, -⟩ := hran.next t hexec
      exact ⟨_, rfl, hu.onRefBus href⟩
    | fault f =>
      obtain ⟨u, hu, hfail | ⟨hnoArm, -⟩⟩ := hran.fault f hexec
      · exact absurd (hu.onRefBus href) hfail.not_onRefBus
      · exact hnoArm.elim
    | refused r => exact absurd hexec (hran.refused r)
  case stops =>
    obtain ⟨u, hu, hfail | ⟨hnoArm, -⟩⟩ := (exec_ran hi s).fault f hfault
    · obtain ⟨left, kind, a, rfl, hleft, -, hcycles⟩ := hfail.stops
      exact ⟨left, kind, a, rfl, hleft, hcycles.trans hu.cycles⟩
    · exact hnoArm.elim
  case refused =>
    by_cases hi : i.isPrefix = true
    · exact (exec_isPrefix_ran hi s).refused r
    · exact (exec_ran (wellFormed_of_not_isPrefix hi) s).refused r

/-- Settles O12: an action keeps memory canonical, and the end of a step leaves no table selected. -/
theorem stepKeepsInv : Obligations.StepKeepsInv := by
  intro s t hinv h
  obtain ⟨-, rfl⟩ | ⟨-, -, u, n, -, hu, -, rfl⟩ := step_eq_next h
  · exact hinv
  · exact ⟨hu.wf ((acknowledged_keeps s.beginStep).1 ▸ hinv.1), rfl⟩

theorem host_mapInBounds {s : State} (m : HostMove) (h : mapInBounds s.map = true) :
    mapInBounds (s.host m).map = true := by
  cases m with
  | remap m => exact m.inBounds
  | _ => exact h

/-- Settles O58: no transaction of an action meets an offset outside a store, and every map a move puts in force is in
bounds. -/
theorem assumedEnvironmentStaysInBounds : Obligations.AssumedEnvironmentStaysInBounds := by
  intro s hmap
  have hstart : mapInBounds s.beginStep.acknowledged.map = true := (acknowledged_keeps s.beginStep).2.1 ▸ hmap
  refine ⟨fun t h => ?keeps, fun left a h => ?never, fun m => apply_mapInBounds m hmap,
    fun m => host_mapInBounds m hmap⟩
  case keeps =>
    obtain ⟨-, rfl⟩ | ⟨-, -, u, n, -, hu, -, rfl⟩ := step_eq_next h
    · exact hmap
    · exact hu.mapInBounds hstart
  case never =>
    obtain ⟨-, u, hu, hfail | ⟨_, _, _, hdecode, -⟩⟩ := step_eq_fault h
    · exact hfail.ne_outOfBounds (hu.mapInBounds hstart) left a rfl
    · cases hdecode

/-- No move of the environment between steps lowers `RESET` or `NMI`. -/
theorem host_keepsRaised (s : State) (m : HostMove) : s.keepsRaised (s.host m) := by
  cases m with
  | raiseReset => exact ⟨fun _ => rfl, id⟩
  | raiseNmi => exact ⟨id, fun _ => rfl⟩
  | _ => exact ⟨id, id⟩

theorem exec_keepsRaised {i : Instr} {s t : State} (h : exec i s = .next t) : s.keepsRaised t := by
  by_cases hi : i.isPrefix = true
  · obtain ⟨u, n, hu, rfl, -⟩ := (exec_isPrefix_ran hi s).next t h
    exact hu.keepsRaised
  · obtain ⟨u, n, hu, rfl, -⟩ := (exec_ran (wellFormed_of_not_isPrefix hi) s).next t h
    exact hu.keepsRaised

/-- A step that has lowered `RESET` or `NMI` was its service (10 R44). -/
theorem step_lowers {s t : State} (h : step s = .next t) :
    s.keepsRaised t ∨ (s.powered = true ∧ s.faulted = false ∧
      ((s.resetLine = true ∧ t.pc = 0x0000 ∧ t.nmiLine = s.nmiLine) ∨
        (s.resetLine = false ∧ s.nmiLine = true ∧ t.pc = 0x0066))) := by
  obtain ⟨-, rfl⟩ | ⟨hpowered, hfaulted, u, n, hact, hu, -, rfl⟩ := step_eq_next h
  · exact .inl (State.keepsRaised_refl _)
  · cases hreset : s.resetLine with
    | true =>
      rw [step_of_reset hpowered hfaulted hreset] at h
      injection h with h
      exact .inr ⟨hpowered, hfaulted, .inl ⟨rfl, h ▸ rfl, h ▸ rfl⟩⟩
    | false =>
      cases hnmi : s.nmiLine with
      | true =>
        rw [pollAndAct_of_nmi (s := s.beginStep) hreset hnmi] at hact
        have hpc : (u.addCycles n).pc = 0x0066 := serviceNmi_pc hact
        exact .inr ⟨hpowered, hfaulted, .inr ⟨rfl, rfl, hpc⟩⟩
      | false =>
        rw [acknowledged_of_lowered (s := s.beginStep) hreset hnmi] at hu
        exact .inl hu.keepsRaised

/-- Settles O59: moves, instructions and actions keep a raised line raised, but for the service of that line. -/
theorem raisedLinesWaitForTheirService : Obligations.RaisedLinesWaitForTheirService := by
  refine fun s => ⟨apply_keepsRaised s, host_keepsRaised s, fun i t h => exec_keepsRaised h, fun t h => ?step⟩
  case step =>
    obtain hkeeps | ⟨hpowered, hfaulted, ⟨hreset, hpc, hnmi⟩ | ⟨hreset, hnmi, hpc⟩⟩ := step_lowers h
    · exact ⟨fun hr ht => absurd (hkeeps.1 hr) (by simp [ht]), fun hn ht => absurd (hkeeps.2 hn) (by simp [ht])⟩
    · exact ⟨fun _ _ => ⟨hpowered, hfaulted, hpc⟩, fun hn ht => absurd (hnmi.trans hn) (by simp [ht])⟩
    · exact ⟨fun hr _ => absurd hr (by simp [hreset]), fun _ _ => ⟨hpowered, hfaulted, hreset, hpc⟩⟩

end Sys2Proof.Machine
end

section
/-! PROOFS. The encoder and the decoder as inverses (30 R103 to R105): the encoder family by family, and the decoder
table by table, each cell by the bytes that stand for it. -/

namespace Sys2Proof.Machine

/-! ## The encoder, by form (30 R112 to R117) -/

theorem encode_load8 (r : Reg8) (l : Loc) : encode (Form.load8 r l) = bytesByZ 1 (codeReg8 r) l := by
  cases l with
  | reg r' => cases r <;> cases r' <;> rfl
  | _ => cases r <;> rfl

theorem encode_storeHL (r : Reg8) : encode (Form.storeHL r) = [opcode 1 6 (codeReg8 r)] := by cases r <;> rfl

theorem encode_storeIX (d : Byte) (r : Reg8) : encode (Form.storeIX d r) = [0xDD, opcode 1 6 (codeReg8 r), d] := by
  cases r <;> rfl

theorem encode_loadImm (n : Byte) (l : Loc) : encode (Form.loadImm n l) = bytesByY 0 6 l ++ [n] := by
  cases l with
  | reg r => cases r <;> rfl
  | _ => rfl

theorem encode_loadPair (nn : Word) (r : Reg16) : encode (Form.loadPair nn r) = bytesOfPair 0 1 (wordBytes nn) r := by
  cases r <;> rfl

theorem encode_loadMem16 (nn : Word) (x : HLX) : encode (Form.loadMem16 nn x) = bytesOfHLX 0x2A (wordBytes nn) x := by
  cases x <;> rfl

theorem encode_storeMem16 (nn : Word) (x : HLX) : encode (Form.storeMem16 nn x) = bytesOfHLX 0x22 (wordBytes nn) x := by
  cases x <;> rfl

theorem encode_loadSP (x : HLX) : encode (Form.loadSP x) = bytesOfHLX 0xF9 [] x := by cases x <;> rfl

theorem encode_push (r : StackReg) : encode (Form.push r) = bytesOfStack 5 r := by cases r <;> rfl

theorem encode_pop (r : StackReg) : encode (Form.pop r) = bytesOfStack 1 r := by cases r <;> rfl

theorem encode_alu {op : AluOp} {src : AluSrc} {i : Instr} (h : Form.alu op src = some i) :
    encode i = bytesOfAlu op src := by
  cases src with
  | imm n => cases op <;> cases h <;> rfl
  | loc l =>
    cases l with
    | reg r => cases op <;> cases r <;> cases h <;> rfl
    | _ => cases op <;> cases h <;> rfl

theorem encode_inc8 (l : Loc) : encode (Form.inc8 l) = bytesByY 0 4 l := by
  cases l with
  | reg r => cases r <;> rfl
  | _ => rfl

theorem encode_dec8 (l : Loc) : encode (Form.dec8 l) = bytesByY 0 5 l := by
  cases l with
  | reg r => cases r <;> rfl
  | _ => rfl

theorem encode_inc16 (r : Reg16) : encode (Form.inc16 r) = bytesOfPair 0 3 [] r := by cases r <;> rfl

theorem encode_dec16 (r : Reg16) : encode (Form.dec16 r) = bytesOfPair 1 3 [] r := by cases r <;> rfl

theorem encode_add16 (x : HLX) (p : Pair) :
    encode (Form.add16 x p) = bytesOfHLX (opcode 0 (2 * codePair p + 1) 1) [] x := by
  cases x <;> cases p <;> rfl

theorem encode_rot (op : RotOp) (l : Loc) : encode (Form.rot op l) = bytesOfBit 0 (codeRot op) l := by
  cases l with
  | reg r => cases op <;> cases r <;> rfl
  | _ => cases op <;> rfl

theorem encode_bit (y : Oct) (l : Loc) : encode (Form.bit y l) = bytesOfBit 1 y.toNat l := by
  cases l with
  | reg r => cases y <;> cases r <;> rfl
  | _ => cases y <;> rfl

theorem encode_res (y : Oct) (l : Loc) : encode (Form.res y l) = bytesOfBit 2 y.toNat l := by
  cases l with
  | reg r => cases y <;> cases r <;> rfl
  | _ => cases y <;> rfl

theorem encode_set (y : Oct) (l : Loc) : encode (Form.set y l) = bytesOfBit 3 y.toNat l := by
  cases l with
  | reg r => cases y <;> cases r <;> rfl
  | _ => cases y <;> rfl

theorem encode_jumpCond (nn : Word) (cc : Cond) :
    encode (Form.jumpCond nn cc) = opcode 3 (codeCond cc) 2 :: wordBytes nn := by
  cases cc <;> rfl

theorem encode_jumpReg (x : HLX) : encode (Form.jumpReg x) = bytesOfHLX 0xE9 [] x := by cases x <;> rfl

theorem encode_jumpRelCond (d : Byte) (cc : RelCond) :
    encode (Form.jumpRelCond d cc) = [opcode 0 (4 + codeCond (relCond cc)) 0, d] := by
  cases cc <;> rfl

theorem encode_callCond (nn : Word) (cc : Cond) :
    encode (Form.callCond nn cc) = opcode 3 (codeCond cc) 4 :: wordBytes nn := by
  cases cc <;> rfl

theorem encode_retCond (cc : Cond) : encode (Form.retCond cc) = [opcode 3 (codeCond cc) 0] := by cases cc <;> rfl

theorem encode_restart (y : Oct) : encode (Form.restart y) = [opcode 3 y.toNat 7] := by cases y <;> rfl

/-- 47 R346: the three modes have rows of their own. -/
theorem decodesTo_encode_intMode (m : IntMode) : decodesTo (encode (Form.intMode m)) (Form.intMode m) := by
  obtain ⟨him0, him1, him2⟩ := decodesTo_intMode
  cases m with
  | im0 => exact him0
  | im1 => exact him1
  | im2 => exact him2

/-! ## Decoding what was encoded -/

/-- Settles O1: the forms by their encodings, which the families' laws decode; the single rows by their arms. -/
theorem decodeOfEncode : Obligations.DecodeOfEncode := by
  intro i rest hi
  refine instr_by_form (motive := fun i => decodesTo (encode i) i) ?load8 ?storeHL ?storeIX ?loadImm ?loadPair
    ?loadMem16 ?storeMem16 ?loadSP ?push ?pop ?alu ?inc8 ?dec8 ?inc16 ?dec16 ?add16 ?rot ?bit ?res ?set ?jumpCond
    ?jumpReg ?jumpRelCond ?callCond ?retCond ?restart decodesTo_encode_intMode ?nop ?ldAtBC ?exAF ?ldAatBC ?djnz ?ldAtDE
    ?jr ?ldAatDE ?cpl ?ldMemA ?scf ?ldAmem ?ccf ?halt ?jp ?ret ?call ?out ?exx ?inA ?ldI ?reti ?di ?ei i hi rest
  case load8 => exact fun r l => encode_load8 r l ▸ decodesTo_load8 r l
  case storeHL => exact fun r => encode_storeHL r ▸ decodesTo_storeHL r
  case storeIX => exact fun d r => encode_storeIX d r ▸ decodesTo_storeIX r d
  case loadImm => exact fun n l => encode_loadImm n l ▸ decodesTo_loadImm l n
  case loadPair => exact fun nn r => encode_loadPair nn r ▸ decodesTo_loadPair r nn
  case loadMem16 => exact fun nn x => encode_loadMem16 nn x ▸ decodesTo_loadMem16 x nn
  case storeMem16 => exact fun nn x => encode_storeMem16 nn x ▸ decodesTo_storeMem16 x nn
  case loadSP => exact fun x => encode_loadSP x ▸ decodesTo_loadSP x
  case push => exact fun r => encode_push r ▸ decodesTo_push r
  case pop => exact fun r => encode_pop r ▸ decodesTo_pop r
  case alu => exact fun _ _ _ h => encode_alu h ▸ decodesTo_alu h
  case inc8 => exact fun l => encode_inc8 l ▸ decodesTo_inc8 l
  case dec8 => exact fun l => encode_dec8 l ▸ decodesTo_dec8 l
  case inc16 => exact fun r => encode_inc16 r ▸ decodesTo_inc16 r
  case dec16 => exact fun r => encode_dec16 r ▸ decodesTo_dec16 r
  case add16 => exact fun x p => encode_add16 x p ▸ decodesTo_add16 x p
  case rot => exact fun op l => encode_rot op l ▸ decodesTo_rot op l
  case bit => exact fun y l => encode_bit y l ▸ decodesTo_bit y l
  case res => exact fun y l => encode_res y l ▸ decodesTo_res y l
  case set => exact fun y l => encode_set y l ▸ decodesTo_set y l
  case jumpCond => exact fun nn cc => encode_jumpCond nn cc ▸ decodesTo_jumpCond cc nn
  case jumpReg => exact fun x => encode_jumpReg x ▸ decodesTo_jumpReg x
  case jumpRelCond => exact fun d cc => encode_jumpRelCond d cc ▸ decodesTo_jumpRelCond cc d
  case callCond => exact fun nn cc => encode_callCond nn cc ▸ decodesTo_callCond cc nn
  case retCond => exact fun cc => encode_retCond cc ▸ decodesTo_retCond cc
  case restart => exact fun y => encode_restart y ▸ decodesTo_restart y
  case nop => exact decodesTo_of_main rfl (takesOperands_op .nop) rfl
  case ldAtBC => exact decodesTo_of_main rfl (takesOperands_op .ldAtBC_A) rfl
  case exAF => exact decodesTo_of_main rfl (takesOperands_op .exAF) rfl
  case ldAatBC => exact decodesTo_of_main rfl (takesOperands_op .ldA_atBC) rfl
  case djnz => exact fun d => decodesTo_of_main rfl (takesOperands_byte .djnz d) rfl
  case ldAtDE => exact decodesTo_of_main rfl (takesOperands_op .ldAtDE_A) rfl
  case jr => exact fun d => decodesTo_of_main rfl (takesOperands_byte .jr d) rfl
  case ldAatDE => exact decodesTo_of_main rfl (takesOperands_op .ldA_atDE) rfl
  case cpl => exact decodesTo_of_main rfl (takesOperands_op .cpl) rfl
  case ldMemA => exact fun nn => decodesTo_of_main rfl (takesOperands_word .ldMem_A nn) rfl
  case scf => exact decodesTo_of_main rfl (takesOperands_op .scf) rfl
  case ldAmem => exact fun nn => decodesTo_of_main rfl (takesOperands_word .ldA_mem nn) rfl
  case ccf => exact decodesTo_of_main rfl (takesOperands_op .ccf) rfl
  case halt => exact decodesTo_of_main rfl (takesOperands_op .halt) rfl
  case jp => exact fun nn => decodesTo_of_main rfl (takesOperands_word .jp nn) rfl
  case ret => exact decodesTo_of_main rfl (takesOperands_op .ret) rfl
  case call => exact fun nn => decodesTo_of_main rfl (takesOperands_word .call nn) rfl
  case out => exact fun n => decodesTo_of_main rfl (takesOperands_byte .outPort_A n) rfl
  case exx => exact decodesTo_of_main rfl (takesOperands_op .exx) rfl
  case inA => exact fun n => decodesTo_of_main rfl (takesOperands_byte .inA_port n) rfl
  case ldI => exact decodesTo_of_main rfl (takesOperands_op .ldI_A) rfl
  case reti => exact decodesTo_of_main rfl (takesOperands_op .reti) rfl
  case di => exact decodesTo_of_main rfl (takesOperands_op .di) rfl
  case ei => exact decodesTo_of_main rfl (takesOperands_op .ei) rfl

/-! ## The cells of the tables (30 R118, R124 to R126) -/

/-- The instruction of a cell is encoded by the bytes up to the opcode byte and the cell's operand bytes (30 R103). -/
def armEncodes (bytes : List Byte) : Arm → Prop
  | .undefined => True
  | .op i => encode i = bytes
  | .byte f => (fun n => encode (f n)) = fun n => bytes ++ [n]
  | .word f => (fun nn => encode (f nn)) = fun nn => bytes ++ wordBytes nn
  | .disp f => (fun d => encode (f d)) = fun d => bytes ++ [d]
  | .dispByte f => (fun d n => encode (f d n)) = fun d n => bytes ++ [d, n]

/-- A property of every entry of a list and its place, counted from `k`. -/
def AllFrom {α : Type} (P : Nat → α → Prop) : Nat → List α → Prop
  | _, [] => True
  | k, a :: rest => P k a ∧ AllFrom P (k + 1) rest

theorem AllFrom.getD {α : Type} {P : Nat → α → Prop} {d : α} (hd : ∀ k, P k d) {l : List α} {k : Nat}
    (h : AllFrom P k l) (j : Nat) : P (k + j) (l.getD j d) := by
  induction l generalizing k j with
  | nil => exact hd _
  | cons a rest ih =>
    cases j with
    | zero => exact h.1
    | succ j => exact (Nat.succ_add_eq_add_succ k j) ▸ ih h.2 j

/-- Every cell of a block of a table, its rows by `y` and its cells by `z`, after the bytes `before`. -/
def BlockEncodes (before : List Byte) (x : Nat) (block : List (List Arm)) : Prop :=
  AllFrom (fun y => AllFrom (fun z => armEncodes (before ++ [opcode x y z])) 0) 0 block

theorem mainBlock0_encodes : BlockEncodes [] 0 mainBlock0 := by and_intros <;> trivial
theorem mainBlock1_encodes : BlockEncodes [] 1 mainBlock1 := by and_intros <;> trivial
theorem mainBlock2_encodes : BlockEncodes [] 2 mainBlock2 := by and_intros <;> trivial
theorem mainBlock3_encodes : BlockEncodes [] 3 mainBlock3 := by and_intros <;> trivial
theorem bitBlock0_encodes : BlockEncodes [0xCB] 0 bitBlock0 := by and_intros <;> trivial
theorem bitBlock1_encodes : BlockEncodes [0xCB] 1 bitBlock1 := by and_intros <;> trivial
theorem bitBlock2_encodes : BlockEncodes [0xCB] 2 bitBlock2 := by and_intros <;> trivial
theorem bitBlock3_encodes : BlockEncodes [0xCB] 3 bitBlock3 := by and_intros <;> trivial

/-- 30 R124: but for 0xCB, which selects the index+bit table. -/
theorem indexTable_encodes :
    ∀ cell ∈ indexTable, armEncodes [0xDD, cell.1] cell.2 ∨ cell = (0xCB, .op .bitPrefix) := by
  unfold indexTable
  simp only [List.forall_mem_append, List.forall_mem_cons, List.not_mem_nil, false_implies,
    implies_true, eq_self, or_true, and_true]
  and_intros <;> exact .inl rfl

theorem indexBitTable_encodes : ∀ cell ∈ indexBitTable, ∀ d, encode (cell.2 d) = [0xDD, 0xCB, d, cell.1] := by
  unfold indexBitTable
  simp only [List.forall_mem_append, List.forall_mem_cons, List.not_mem_nil, false_implies,
    implies_true, and_true]
  and_intros <;> exact fun _ => rfl

/-- 30 R110: the nested selection by `x`, `y` and `z`. -/
theorem selectCell_encodes {before : List Byte} {b0 b1 b2 b3 : List (List Arm)} (h0 : BlockEncodes before 0 b0)
    (h1 : BlockEncodes before 1 b1) (h2 : BlockEncodes before 2 b2) (h3 : BlockEncodes before 3 b3) (op : Byte) :
    armEncodes (before ++ [op]) (selectCell b0 b1 b2 b3 op) := by
  obtain ⟨hx, -, -, -, -, -, -, -, -, -, hop, -⟩ := decodeMatrixIsTotal op
  have hbyte : opcode (quintuple op).x (quintuple op).y (quintuple op).z = op := by
    rw [opcode, ← hop, BitVec.ofNat_toNat, BitVec.setWidth_eq]
  have hcell {x : Nat} {block : List (List Arm)} (hxop : (quintuple op).x = x) (h : BlockEncodes before x block) :
      armEncodes (before ++ [op]) ((block.getD (quintuple op).y []).getD (quintuple op).z .undefined) := by
    have hrow := AllFrom.getD (d := []) (fun _ => trivial) h (quintuple op).y
    have harm := AllFrom.getD (d := Arm.undefined) (fun _ => trivial) hrow (quintuple op).z
    rwa [Nat.zero_add, Nat.zero_add, ← hxop, hbyte] at harm
  obtain hxop | hxop | hxop | hxop : (quintuple op).x = 0 ∨ (quintuple op).x = 1 ∨ (quintuple op).x = 2 ∨
      (quintuple op).x = 3 := by omega
  · simpa only [selectCell, hxop] using hcell hxop h0
  · simpa only [selectCell, hxop] using hcell hxop h1
  · simpa only [selectCell, hxop] using hcell hxop h2
  · simpa only [selectCell, hxop] using hcell hxop h3

theorem armOf_none_encodes (op : Byte) : armEncodes [op] (armOf .none op) :=
  selectCell_encodes mainBlock0_encodes mainBlock1_encodes mainBlock2_encodes mainBlock3_encodes op

theorem armOf_bit_encodes (op : Byte) : armEncodes [0xCB, op] (armOf .bit op) :=
  selectCell_encodes bitBlock0_encodes bitBlock1_encodes bitBlock2_encodes bitBlock3_encodes op

/-- An entry that a lookup finds is in the list, under its key. -/
theorem mem_of_lookup {α : Type} {l : List (Byte × α)} {op : Byte} {a : α} (h : l.lookup op = some a) :
    (op, a) ∈ l := by
  induction l with
  | nil => cases h
  | cons cell rest ih =>
    obtain ⟨k, b⟩ := cell
    rw [List.lookup_cons] at h
    by_cases hk : op == k
    · rw [hk] at h
      cases h
      exact eq_of_beq hk ▸ List.mem_cons_self
    · rw [Bool.eq_false_iff.mpr hk] at h
      exact List.mem_cons_of_mem _ (ih h)

theorem armOf_index_encodes (op : Byte) :
    armEncodes [0xDD, op] (armOf .index op) ∨ op = 0xCB ∧ armOf .index op = .op .bitPrefix := by
  cases hlookup : indexTable.lookup op with
  | none => exact .inl (by rw [armOf, hlookup]; trivial)
  | some arm =>
    obtain henc | hcell := indexTable_encodes _ (mem_of_lookup hlookup)
    · exact .inl (by rw [armOf, hlookup]; exact henc)
    · cases hcell
      exact .inr ⟨rfl, rfl⟩

/-- 30 R126: a cell of the index+bit table is an instruction that takes no more bytes. -/
theorem armOf_indexBit_encodes {d op : Byte} {arm : Arm} (h : armOf (.indexBit d) op = arm) :
    arm = .undefined ∨ ∃ i, arm = .op i ∧ encode i = [0xDD, 0xCB, d, op] := by
  subst h
  cases hlookup : indexBitTable.lookup op with
  | none => exact .inl (by rw [armOf, hlookup])
  | some f => exact .inr ⟨f d, by rw [armOf, hlookup], indexBitTable_encodes _ (mem_of_lookup hlookup) d⟩

/-! ## Decoding, table by table (41 R185) -/

/-- The rows 0xDD and 0xCB are encoded by their one byte. -/
theorem encode_of_isPrefix {i : Instr} (h : i.isPrefix = true) : (encode i).length = 1 := by
  obtain rfl | rfl := (isPrefix_iff i).1 h <;> rfl

theorem wellFormed_of_length {i : Instr} (h : 2 ≤ (encode i).length) : WellFormed i = true :=
  wellFormed_of_not_isPrefix fun hi => by rw [encode_of_isPrefix hi] at h; omega

/-- What an arm's instruction is encoded by: the bytes before its operands, and at most two operand bytes. -/
theorem encode_of_takeOperands {t : PrefixState} {op : Byte} {arm : Arm} {before bs rest : List Byte} {i : Instr}
    (harm : armEncodes before arm) (h : takeOperands t op arm bs = .ok (i, rest)) :
    ∃ operands, operands.length ≤ 2 ∧ encode i = before ++ operands ∧ bs = operands ++ rest := by
  unfold takeOperands at h
  split at h
  · cases h
  · cases h; exact ⟨[], by simp, harm.trans (List.append_nil _).symm, rfl⟩
  · next n rest' => cases h; exact ⟨[n], by simp, congrFun harm n, rfl⟩
  · next f l h' rest' =>
    cases h
    refine ⟨[l, h'], by simp, (congrFun harm (joinBytes h' l)).trans ?_, rfl⟩
    rw [wordBytes, loByte_joinBytes, hiByte_joinBytes]
  · next d rest' => cases h; exact ⟨[d], by simp, congrFun harm d, rfl⟩
  · next d n rest' => cases h; exact ⟨[d, n], by simp, congrFun (congrFun harm d) n, rfl⟩
  · cases h

/-- Which table decoded the instruction, from which opcode byte and which bytes after it. -/
inductive Decodes (i : Instr) (rest : List Byte) : List Byte → Prop where
  | main {op : Byte} {bs : List Byte} (hi : WellFormed i = true)
      (h : takeOperands .none op (armOf .none op) bs = .ok (i, rest)) : Decodes i rest (op :: bs)
  | bit {op : Byte} {bs : List Byte} (h : takeOperands .bit op (armOf .bit op) bs = .ok (i, rest)) :
      Decodes i rest (0xCB :: op :: bs)
  | index {op : Byte} {bs : List Byte} (hop : armEncodes [0xDD, op] (armOf .index op))
      (h : takeOperands .index op (armOf .index op) bs = .ok (i, rest)) : Decodes i rest (0xDD :: op :: bs)
  | indexBit {d op : Byte} {bs : List Byte}
      (h : takeOperands (.indexBit d) op (armOf (.indexBit d) op) bs = .ok (i, rest)) :
      Decodes i rest (0xDD :: 0xCB :: d :: op :: bs)

theorem decodeUnit_eq_ok {t : PrefixState} {bytes rest : List Byte} {i : Instr}
    (h : decodeUnit t bytes = .ok (i, rest)) :
    ∃ op bs, bytes = op :: bs ∧ takeOperands t op (armOf t op) bs = .ok (i, rest) := by
  cases bytes with
  | nil => cases h
  | cons op bs => exact ⟨op, bs, rfl, h⟩

/-- The bytes that the main table takes are the encoding; for the rows 0xDD and 0xCB they are the one byte. -/
theorem decodeUnit_none_encode {bytes rest : List Byte} {i : Instr}
    (h : decodeUnit .none bytes = .ok (i, rest)) : bytes = encode i ++ rest := by
  obtain ⟨op, bs, rfl, htake⟩ := decodeUnit_eq_ok h
  obtain ⟨operands, -, henc, rfl⟩ := encode_of_takeOperands (armOf_none_encodes op) htake
  rw [henc]
  rfl

theorem decodeUnit_index_eq_ok {bytes rest : List Byte} {i : Instr} (h : decodeUnit .index bytes = .ok (i, rest)) :
    (i = .bitPrefix ∧ bytes = 0xCB :: rest) ∨ (WellFormed i = true ∧ Decodes i rest (0xDD :: bytes)) := by
  obtain ⟨op, bs, rfl, htake⟩ := decodeUnit_eq_ok h
  obtain harm | ⟨rfl, harm⟩ := armOf_index_encodes op
  · obtain ⟨operands, -, henc, -⟩ := encode_of_takeOperands harm htake
    exact .inr ⟨wellFormed_of_length (by simp [henc]), .index harm htake⟩
  · rw [harm] at htake
    cases htake
    exact .inl ⟨rfl, rfl⟩

/-- 41 R185: a decoding comes from one of the four tables. -/
theorem decodes_of_decode {bytes rest : List Byte} {i : Instr} (h : decode bytes = .ok (i, rest)) :
    Decodes i rest bytes := by
  unfold decode at h
  split at h
  · next bs hunit =>
    obtain rfl := decodeUnit_none_encode hunit
    split at h
    · next d bs' hindex =>
      obtain ⟨-, rfl⟩ | ⟨hwf, -⟩ := decodeUnit_index_eq_ok hindex
      · obtain ⟨op, bs, rfl, htake⟩ := decodeUnit_eq_ok h
        exact .indexBit htake
      · cases hwf
    · cases h
    · next hnot _ =>
      obtain ⟨rfl, rfl⟩ | ⟨-, hdecodes⟩ := decodeUnit_index_eq_ok h
      · cases rest with
        | nil => exact absurd h (by assumption)
        | cons d bs => exact absurd h (hnot d bs)
      · exact hdecodes
  · next bs hunit =>
    obtain rfl := decodeUnit_none_encode hunit
    obtain ⟨op, bs, rfl, htake⟩ := decodeUnit_eq_ok h
    exact .bit htake
  · next hindex hbit =>
    have hi : ¬ i.isPrefix = true := fun hi => by
      obtain rfl | rfl := (isPrefix_iff i).1 hi
      · exact hbit _ h
      · exact hindex _ h
    obtain ⟨op, bs, rfl, htake⟩ := decodeUnit_eq_ok h
    exact .main (wellFormed_of_not_isPrefix hi) htake

/-- 30 R103 to R105: what a table decodes is complete, and the bytes taken are its encoding. -/
theorem Decodes.encode {bytes rest : List Byte} {i : Instr} (h : Decodes i rest bytes) :
    WellFormed i = true ∧ bytes = encode i ++ rest ∧ 1 ≤ (encode i).length ∧ (encode i).length ≤ 4 := by
  have hshape {before operands : List Byte} (hlow : 1 ≤ before.length) (hhigh : before.length ≤ 2)
      (hlength : operands.length ≤ 2) (henc : Sys2Proof.encode i = before ++ operands) :
      1 ≤ (Sys2Proof.encode i).length ∧ (Sys2Proof.encode i).length ≤ 4 := by
    rw [henc, List.length_append]
    omega
  cases h with
  | main hi h =>
    obtain ⟨operands, hlength, henc, rfl⟩ := encode_of_takeOperands (armOf_none_encodes _) h
    exact ⟨hi, by rw [henc]; rfl, hshape (by simp) (by simp) hlength henc⟩
  | bit h =>
    obtain ⟨operands, hlength, henc, rfl⟩ := encode_of_takeOperands (armOf_bit_encodes _) h
    exact ⟨wellFormed_of_length (by simp [henc]), by rw [henc]; rfl, hshape (by simp) (by simp) hlength henc⟩
  | index hop h =>
    obtain ⟨operands, hlength, henc, rfl⟩ := encode_of_takeOperands hop h
    exact ⟨wellFormed_of_length (by simp [henc]), by rw [henc]; rfl, hshape (by simp) (by simp) hlength henc⟩
  | indexBit h =>
    obtain harm | ⟨j, harm, henc⟩ := armOf_indexBit_encodes rfl
    · rw [harm] at h; cases h
    · rw [harm] at h
      cases h
      exact ⟨wellFormed_of_length (by simp [henc]), by rw [henc]; rfl, by simp [henc], by simp [henc]⟩

/-- Settles O2: whichever table decodes, its cell is encoded by the bytes taken. -/
theorem encodeOfDecode : Obligations.EncodeOfDecode := fun _ _ _ h => (decodes_of_decode h).encode

end Sys2Proof.Machine
end

section
/-! PROOFS. The opcode bytes without an arm in each table (30 R119, R124 to R127), worked words, the values of reset,
and the bytes 0xDD and 0xCB (30 R121, R122). -/

namespace Sys2Proof.Machine

/-! ## Cells that hold nothing -/

theorem isUndefined_iff (arm : Arm) : arm.isUndefined = true ↔ arm = .undefined := by
  cases arm <;> simp [Arm.isUndefined]

/-- 30 R126: whether the index+bit table has an arm does not depend on the displacement. -/
theorem armOf_indexBit_isUndefined (d op : Byte) :
    (armOf (.indexBit d) op).isUndefined = (armOf (.indexBit 0) op).isUndefined := by
  cases hlookup : indexBitTable.lookup op <;> simp [armOf, hlookup, Arm.isUndefined]

theorem armOf_none_isUndefined_iff : ∀ op : Byte, (armOf .none op).isUndefined = true ↔
    op ∈ [0x07, 0x0F, 0x17, 0x1F, 0x27, 0xE3, 0xEB, 0xED, 0xFD, 0xEE, 0xF6, (0xFE : Byte)] := by decide

theorem armOf_bit_isUndefined_iff : ∀ op : Byte, (armOf .bit op).isUndefined = true ↔
    0x30 ≤ op.toNat ∧ op.toNat ≤ 0x37 := by decide

theorem armOf_index_isUndefined_iff : ∀ op : Byte, (armOf .index op).isUndefined = true ↔
    op ∉ [0x09, 0x19, 0x29, 0x39, 0x21, 0x22, 0x23, 0x2A, 0x2B, 0x34, 0x35, 0x36, 0x46, 0x4E, 0x56, 0x5E, 0x66, 0x6E,
      0x7E, 0x70, 0x71, 0x72, 0x73, 0x74, 0x75, 0x77, 0x86, 0x8E, 0x96, 0x9E, 0xA6, 0xAE, 0xB6, 0xBE, 0xE1, 0xE5, 0xE9,
      0xF9, (0xCB : Byte)] := by decide

theorem armOf_indexBit_isUndefined_eq : ∀ op : Byte, (armOf (.indexBit 0) op).isUndefined =
    (decide ((quintuple op).z ≠ 6) || decide (op = 0x36)) := by decide

theorem armOf_indexBit_isUndefined_iff (op : Byte) : (armOf (.indexBit 0) op).isUndefined = true ↔
    ((quintuple op).z ≠ 6 ∨ op = 0x36) := by
  rw [armOf_indexBit_isUndefined_eq, Bool.or_eq_true, decide_eq_true_iff, decide_eq_true_iff]

/-- A table with `n` arms leaves the other bytes without one. -/
theorem undefined_count {t : PrefixState} {n : Nat}
    (harms : ((List.range 256).filter fun k => !(armOf t (BitVec.ofNat 8 k)).isUndefined).length = n) :
    ((List.range 256).filter fun k => (armOf t (BitVec.ofNat 8 k)).isUndefined).length = 256 - n := by
  have hsplit := List.length_eq_countP_add_countP (l := List.range 256) fun k =>
    (armOf t (BitVec.ofNat 8 k)).isUndefined
  simp only [List.length_range, List.countP_eq_length_filter, Bool.not_eq_true, Bool.decide_eq_false] at hsplit
  omega

/-- 30 R124: 38 arms and the byte 0xCB. -/
theorem index_undefined_count :
    ((List.range 256).filter fun k => (armOf .index (BitVec.ofNat 8 k)).isUndefined).length = 217 :=
  undefined_count (n := 39) (by decide)

/-- 30 R126: 31 arms. -/
theorem indexBit_undefined_count :
    ((List.range 256).filter fun k => (armOf (.indexBit 0) (BitVec.ofNat 8 k)).isUndefined).length = 225 :=
  undefined_count (n := 31) (by decide)

/-- Settles O5: each table byte by byte; the index+bit table once for every displacement. -/
theorem undefinedBytes : Obligations.UndefinedBytes := by
  refine ⟨fun op => ?main, fun op => ?bit, fun op => ?index, index_undefined_count, fun d => ?count,
    fun d op => ?indexBit⟩
  case main => rw [← isUndefined_iff, armOf_none_isUndefined_iff]
  case bit => rw [← isUndefined_iff, armOf_bit_isUndefined_iff]
  case index => rw [← isUndefined_iff, armOf_index_isUndefined_iff]
  case count =>
    simp only [armOf_indexBit_isUndefined d]
    exact indexBit_undefined_count
  case indexBit => rw [← isUndefined_iff, armOf_indexBit_isUndefined, armOf_indexBit_isUndefined_iff]

/-- Settles O4: each word is read to its end by the table that its leading bytes select. -/
theorem workedWordsDecode : Obligations.WorkedWordsDecode :=
  ⟨rfl, rfl, rfl, rfl, rfl, rfl, rfl, rfl, rfl, rfl, rfl⟩

/-! ## Reset (10 R50) -/

/-- Settles O13: reset memory is canonical, and no table is selected. -/
theorem resetMeetsInv : Obligations.ResetMeetsInv := ⟨State.reset_wf, rfl⟩

/-- Settles O57: the fields of `State.reset`; the flags byte is read through its mask. -/
theorem resetValues : Obligations.ResetValues := by
  have hflags : State.reset.readF = 0x02 := by decide
  exact ⟨rfl, rfl, hflags, rfl, rfl, rfl, rfl, rfl, rfl, rfl, rfl⟩

/-! ## The bytes 0xDD and 0xCB (30 R121, R122) -/

theorem exec_bitPrefix (s : State) : exec .bitPrefix s = takeBitPrefix s := rfl

theorem takeIndexPrefix_of_none {s : State} (h : s.pfx = .none) : takeIndexPrefix s = .next (s.writePfx .index) := by
  rw [takeIndexPrefix, h]

theorem takeIndexPrefix_of_index {s : State} (h : s.pfx = .index) :
    takeIndexPrefix s = .fault (.decodeFailure { s with faulted := true, pfx := .none } (s.pc - 2) [0xDD, 0xDD]) := by
  rw [takeIndexPrefix, h]

theorem takeBitPrefix_of_none {s : State} (h : s.pfx = .none) : takeBitPrefix s = .next (s.writePfx .bit) := by
  rw [takeBitPrefix, h]

/-- 41 R192 on the REF bus: the displacement is the byte at `PC`, and `LATCH` takes `IX+d`. -/
theorem fetchDisplacement_ref {s : State} (h : s.onRefBus) : fetchDisplacement s =
    .ok (s.byteAt s.pc) ((s.afterFetch .fetchOperand).writeLatch (s.ix + signExt (s.byteAt s.pc))) := by
  rw [fetchDisplacement, fetchByte_ref h, Res.bind_ok, State.indexed, State.afterFetch_ix]

theorem takeBitPrefix_of_index {s : State} (hindex : s.pfx = .index) (h : s.onRefBus) : takeBitPrefix s =
    .next (((s.afterFetch .fetchOperand).writeLatch (s.ix + signExt (s.byteAt s.pc))).writePfx
      (.indexBit (s.byteAt s.pc))) := by
  rw [takeBitPrefix, hindex]
  dsimp only
  rw [fetchDisplacement_ref h]
  rfl

/-- Settles O43: the row of each byte, by the decode state it is met in. -/
theorem prefixBytes : Obligations.PrefixBytes := by
  refine fun s => ⟨fun h => ?index, fun h => ?stuck, fun h => ?bit, fun h href => ?indexBit⟩
  case index => exact takeIndexPrefix_of_none h
  case stuck => exact ⟨_, takeIndexPrefix_of_index h⟩
  case bit => exact takeBitPrefix_of_none h
  case indexBit => exact takeBitPrefix_of_index h href

end Sys2Proof.Machine
end

section
/-! PROOFS. The bus (20): what an access raises, what a transaction keeps of the block, and the port instructions. -/

namespace Sys2Proof.Machine

/-! ## ConfigurationError (20 R63, R66 to R68) -/

theorem applyAll_trace (moves : List EnvMove) (s : State) : (s.applyAll moves).trace = s.trace := by
  induction moves generalizing s with
  | nil => rfl
  | cons m rest ih =>
    have hm : (s.apply m).trace = s.trace := by cases m <;> rfl
    exact (ih _).trans hm

/-- A hook appends no trace record, whatever the environment does at it. -/
theorem hook_trace (s : State) (e : Event) : (s.hook e).trace = s.trace := by
  unfold State.hook
  split
  · rfl
  · exact applyAll_trace _ ((s.emit e).writeHooks _)

/-- What a `ConfigurationError` leaves: the faulted state, with the trace and memory of the failing access. -/
theorem configFault_left {α : Type} (kind : ConfigKind) (a : Word) {s t : State} (htrace : t.trace = s.trace) :
    ∃ left, (configFault kind a t : Res α) = .fault (.configurationError left kind a) ∧ left.faulted = true ∧
      left.trace = s.trace ∧ left.mem = t.mem :=
  ⟨_, rfl, rfl, htrace, rfl⟩

/-- Settles O50: the branches of the two accesses; a hook appends no record, and the store comes after the checks. -/
theorem configurationErrors : Obligations.ConfigurationErrors := by
  intro a v g s
  dsimp only
  have htrace1 : ((s.writeAddress a).hook (.reading a)).trace = s.trace := hook_trace _ _
  have htrace2 : (((s.writeAddress a).writeData v).hook (.writing a v)).trace = s.trace := hook_trace _ _
  simp only [memRead, memWrite]
  generalize (s.writeAddress a).hook (.reading a) = s1 at htrace1
  generalize ((s.writeAddress a).writeData v).hook (.writing a v) = s2 at htrace2
  refine ⟨fun hmap => ?readUnmapped, fun r hmap hlength => ?readBounds, fun hmap => ?writeUnmapped, fun r hmap =>
    ⟨fun haccess => ?writeReadOnly, fun haccess hlength => ?writeBounds⟩⟩
  case readUnmapped => rw [hmap]; exact configFault_left _ a htrace1
  case readBounds =>
    have hout : ¬ r.offset a < r.length := Nat.not_lt.2 hlength
    simp only [hmap, if_neg hout]
    exact configFault_left _ a htrace1
  case writeUnmapped => rw [hmap]; exact configFault_left _ a htrace2
  case writeReadOnly =>
    simp only [hmap, haccess]
    exact configFault_left _ a htrace2
  case writeBounds =>
    have hout : ¬ r.offset a < r.length := Nat.not_lt.2 hlength
    simp only [hmap, haccess, if_neg hout]
    exact configFault_left _ a htrace2

/-! ## The block during a transaction (20 R78) -/

theorem SameBlock.sameBlock {s t : State} (h : SameBlock s t) : s.sameBlock t :=
  ⟨h.af, h.bc, h.de, h.hl, h.afAlt, h.bcAlt, h.deAlt, h.hlAlt, h.ix, h.sp, h.pc, h.latch, h.i, h.im, h.iff, h.halted,
    h.powered, h.faulted, h.cycles, h.pfx⟩

/-- Settles O51: the four transactions keep the block, by their laws on any bus. -/
theorem transactionsKeepTheBlock : Obligations.TransactionsKeepTheBlock := fun _ _ _ _ _ _ =>
  ⟨fun _ h => (memRead_sameBlock h).sameBlock, fun h => (memWrite_sameBlock h).sameBlock,
    fun _ h => (ioRead_sameBlock h).sameBlock, fun h => (ioWrite_sameBlock h).sameBlock⟩

/-! ## Ports (20 R74, R75; 42 R240, R241) -/

theorem exec_inA_port (n : Byte) (s : State) : exec (.inA_port n) s = inPort n 11 s := rfl

theorem exec_outPort_A (n : Byte) (s : State) : exec (.outPort_A n) s = outPort n 11 s := rfl

theorem inPort_ref {s : State} (h : s.hooks = []) (n : Byte) (c : Nat) :
    inPort n c s = .next (((s.afterPortRead n (ioAnswer n s)).writeA (ioAnswer n s)).addCycles c) := by
  rw [inPort, ioRead_ref h, Res.bind_ok, Res.finish_ok]

theorem outPort_ref {s : State} (h : s.hooks = []) (n : Byte) (c : Nat) :
    outPort n c s = .next ((s.afterPortWrite n s.readA).addCycles c) := by
  rw [outPort, ioWrite_ref h, Res.finish_ok]

/-- Settles O28: the port transactions without a move at a hook; on any bus they answer. -/
theorem portInputOutput : Obligations.PortInputOutput := by
  intro n s hhooks
  refine ⟨decodesTo_of_main rfl (takesOperands_byte .inA_port n) rfl,
    decodesTo_of_main rfl (takesOperands_byte .outPort_A n) rfl, ?inA, fun v rest hready => ?answer, ?out,
    fun s f => ?inNever, fun s f => ?outNever⟩
  case inA => rw [exec_inA_port, inPort_ref hhooks]
  case answer => rw [ioAnswer, hready]
  case out => rw [exec_outPort_A, outPort_ref hhooks]
  case inNever => exact nofun
  case outNever => exact nofun

end Sys2Proof.Machine
end

section
/-! PROOFS. The half-carry tables (40 R148) and all accumulator operations over the flag algebra (43 section 1). -/

namespace Sys2Proof.Machine

/-- Settles O16: the result has the low nibble that nibble arithmetic gives, and the tables are read by bit 3. -/
theorem halfCarryTables : Obligations.HalfCarryTables := by
  refine fun before value cin => ⟨hcAdd_iff cin.toNat_le ?sum, hcSub_iff cin.toNat_le ?difference⟩
  case sum => exact BitVec.toNat_ofNat _ _
  case difference =>
    rw [BitVec.toNat_ofInt]
    omega

/-- 30 R117: every operand has a form but register `C`. -/
theorem alu_eq_none_iff (op : AluOp) (src : AluSrc) : Form.alu op src = none ↔ src = .loc (.reg .c) := by
  cases src with
  | imm n => cases op <;> simp [Form.alu]
  | loc l =>
    cases l with
    | reg r => cases r <;> cases op <;> simp [Form.alu]
    | _ => cases op <;> simp [Form.alu]

/-- 30 R124: with `x = 2` the index table holds the operations on the memory operand only. -/
theorem indexTable_alu : ∀ cell ∈ indexTable, (quintuple cell.1).x = 2 → (quintuple cell.1).z = 6 := by decide

theorem codeAlu_lt (op : AluOp) : codeAlu op < 8 := by cases op <;> decide

theorem armOf_index_alu (op : AluOp) {z : Nat} (hz : z < 8) (hmem : z ≠ 6) :
    armOf .index (opcode 2 (codeAlu op) z) = .undefined := by
  have hy := codeAlu_lt op
  refine armOf_index_undefined fun cell hcell hop => hmem ?_
  have hz6 := indexTable_alu cell hcell (hop ▸ quintuple_opcode_x (by decide) hy hz)
  rwa [← hop, quintuple_opcode_z (by decide) hy hz] at hz6

/-- Settles O29: the family's encoding and its operation on the REF bus; the index table has the memory forms only. -/
theorem accumulatorOperation : Obligations.AccumulatorOperation := by
  refine fun op src => ⟨alu_eq_none_iff op src, fun z hmem hz => armOf_index_alu op hz hmem, fun i hform =>
    ⟨decodesTo_alu hform, fun s href => ?_⟩⟩
  exact (exec_alu hform s).trans (alu_ref href op src _)

end Sys2Proof.Machine
end

section
/-! PROOFS. The fetch on the REF bus (41 section 2): which state each opcode byte is looked up in, which bytes are
fetched by then, and that the step runs what the bytes at `PC` decode to, or stops where they have no arm. -/

namespace Sys2Proof.Machine

/-! ## The operand bytes of an arm (30 R103, R104) -/

/-- The instruction an arm makes of the next two bytes. -/
def armRead (b c : Byte) : Arm → Option Instr
  | .undefined => none
  | .op i => some i
  | .byte f => some (f b)
  | .word f => some (f (joinBytes c b))
  | .disp f => some (f b)
  | .dispByte f => some (f b c)

/-- Those of the next two bytes that an arm takes. -/
def armOperands (b c : Byte) : Arm → List Byte
  | .undefined | .op _ => []
  | .byte _ | .disp _ => [b]
  | .word _ | .dispByte _ => [b, c]

/-- The state after fetching the operand bytes of an arm, on the REF bus (41 R187, R192). -/
def State.afterOperands (s : State) : Arm → State
  | .undefined | .op _ => s
  | .byte _ => s.afterFetch .fetchOperand
  | .word _ => (s.afterFetch .fetchOperand).afterFetch .fetchOperand
  | .disp _ => (s.afterFetch .fetchOperand).writeLatch (s.ix + signExt (s.byteAt s.pc))
  | .dispByte _ =>
    ((s.afterFetch .fetchOperand).writeLatch (s.ix + signExt (s.byteAt s.pc))).afterFetch .fetchOperand

theorem fetchOperands_ref {s : State} (h : s.onRefBus) (arm : Arm) :
    fetchOperands arm s = .ok (armRead (s.byteAt s.pc) (s.byteAt (s.pc + 1)) arm) (s.afterOperands arm) := by
  cases arm with
  | undefined => rfl
  | op i => rfl
  | byte f => rw [fetchOperands, fetchByte_ref h]; rfl
  | word f => rw [fetchOperands, fetchWord_ref h]; rfl
  | disp f => rw [fetchOperands, fetchDisplacement_ref h]; rfl
  | dispByte f =>
    have hnext := ref_writeLatch (ref_afterFetch h .fetchOperand) (s.ix + signExt (s.byteAt s.pc))
    rw [fetchOperands, fetchDisplacement_ref h, Res.bind_ok, fetchByte_ref hnext]
    rfl

theorem armRead_of_takeOperands {t : PrefixState} {op b c : Byte} {arm : Arm} {bs rest : List Byte} {i : Instr}
    (h : takeOperands t op arm (b :: c :: bs) = .ok (i, rest)) : armRead b c arm = some i := by
  cases arm <;> cases h <;> rfl

theorem undefined_of_takeOperands {t : PrefixState} {op b c : Byte} {arm : Arm} {bs : List Byte} {e : DecodeError}
    (h : takeOperands t op arm (b :: c :: bs) = .error e) : arm = .undefined := by
  cases arm <;> cases h
  rfl

theorem encode_of_armRead {before : List Byte} {b c : Byte} {arm : Arm} {i : Instr} (harm : armEncodes before arm)
    (h : armRead b c arm = some i) : encode i = before ++ armOperands b c arm := by
  cases arm with
  | undefined => cases h
  | op j => cases h; exact harm.trans (List.append_nil _).symm
  | byte f => cases h; exact congrFun harm b
  | word f =>
    cases h
    refine (congrFun harm (joinBytes c b)).trans ?_
    rw [wordBytes, loByte_joinBytes, hiByte_joinBytes]
    rfl
  | disp f => cases h; exact congrFun harm b
  | dispByte f => cases h; exact congrFun (congrFun harm b) c

/-! ## One round on the REF bus (41 R185) -/

theorem fetchUnit_ref {s : State} (h : s.onRefBus) : fetchUnit s =
    .ok (armRead (s.byteAt (s.pc + 1)) (s.byteAt (s.pc + 2)) (armOf s.pfx (s.byteAt s.pc)))
      ((s.afterFetch .fetch).afterOperands (armOf s.pfx (s.byteAt s.pc))) := by
  rw [fetchUnit, fetchByte_ref h, Res.bind_ok, fetchOperands_ref (ref_afterFetch h .fetch), State.afterFetch_pc,
    State.afterFetch_pfx, byteAt_afterFetch, byteAt_afterFetch, add_one_one]

/-- A byte without an arm ends the round (30 R128). -/
theorem executeUnit_of_undefined {s : State} (h : s.onRefBus) (harm : armOf s.pfx (s.byteAt s.pc) = .undefined)
    (again : State → Out) : executeUnit again s = .next (s.afterFetch .fetch) := by
  rw [executeUnit, fetchUnit_ref h, harm]
  rfl

/-- The rows 0xDD and 0xCB lead to another round (30 R120). -/
theorem executeUnit_of_isPrefix {s t : State} {i : Instr} (h : s.onRefBus)
    (harm : armOf s.pfx (s.byteAt s.pc) = .op i) (hi : i.isPrefix = true)
    (hexec : exec i (s.afterFetch .fetch) = .next t) (again : State → Out) : executeUnit again s = again t := by
  rw [executeUnit, fetchUnit_ref h, harm]
  simp only [armRead, State.afterOperands, hi, if_true, hexec]

/-- A complete instruction is run once its operand bytes are fetched. -/
theorem executeUnit_of_armRead {s : State} {i : Instr} (h : s.onRefBus) (hi : WellFormed i = true)
    (harm : armRead (s.byteAt (s.pc + 1)) (s.byteAt (s.pc + 2)) (armOf s.pfx (s.byteAt s.pc)) = some i)
    (again : State → Out) :
    executeUnit again s = exec i ((s.afterFetch .fetch).afterOperands (armOf s.pfx (s.byteAt s.pc))) := by
  rw [executeUnit, fetchUnit_ref h, harm]
  simp only [isPrefix_of_wellFormed hi]
  rfl

/-! ## The state in which the last opcode byte is looked up (30 R120 to R122) -/

/-- In the main table. -/
def State.atMain (s : State) : State := s.writePfx .none

/-- In the bit table, after 0xCB. -/
def State.atBit (s : State) : State := (s.afterFetch .fetch).writePfx .bit

/-- In the index table, after 0xDD. -/
def State.atIndex (s : State) : State := (s.afterFetch .fetch).writePfx .index

/-- In the index+bit table, after 0xDD 0xCB and the displacement. -/
def State.atIndexBit (s : State) : State :=
  (((s.atIndex.afterFetch .fetch).afterFetch .fetchOperand).writeLatch
    (s.ix + signExt (s.byteAt (s.pc + 2)))).writePfx (.indexBit (s.byteAt (s.pc + 2)))

theorem execute_of_CB {s : State} (h : s.onRefBus) (h0 : s.byteAt s.pc = 0xCB) :
    execute s = executeUnit (executeUnit .next) s.atBit := by
  have harm : armOf .none (s.byteAt s.pc) = .op .bitPrefix := by rw [h0]; rfl
  have hexec : exec .bitPrefix (s.atMain.afterFetch .fetch) = .next s.atBit :=
    takeBitPrefix_of_none (s := s.atMain.afterFetch .fetch) rfl
  exact executeUnit_of_isPrefix (s := s.atMain) h harm rfl hexec _

theorem execute_of_DD {s : State} (h : s.onRefBus) (h0 : s.byteAt s.pc = 0xDD) :
    execute s = executeUnit (executeUnit .next) s.atIndex := by
  have harm : armOf .none (s.byteAt s.pc) = .op .indexPrefix := by rw [h0]; rfl
  have hexec : exec .indexPrefix (s.atMain.afterFetch .fetch) = .next s.atIndex :=
    takeIndexPrefix_of_none (s := s.atMain.afterFetch .fetch) rfl
  exact executeUnit_of_isPrefix (s := s.atMain) h harm rfl hexec _

theorem byteAt_atIndex (s : State) (a : Word) : s.atIndex.byteAt a = s.byteAt a := rfl

theorem State.atIndex_ix (s : State) : s.atIndex.ix = s.ix := rfl

theorem atIndex_afterFetch_pc (s : State) : (s.atIndex.afterFetch .fetch).pc = s.pc + 2 := by
  rw [State.afterFetch_pc, State.atIndex, State.writePfx_pc, State.afterFetch_pc, add_one_one]

theorem execute_of_DDCB {s : State} (h : s.onRefBus) (h0 : s.byteAt s.pc = 0xDD) (h1 : s.byteAt (s.pc + 1) = 0xCB) :
    execute s = executeUnit .next s.atIndexBit := by
  have harm : armOf .index (s.byteAt (s.pc + 1)) = .op .bitPrefix := by rw [h1]; rfl
  have hexec : exec .bitPrefix (s.atIndex.afterFetch .fetch) = .next s.atIndexBit := by
    rw [exec_bitPrefix, takeBitPrefix_of_index (s := s.atIndex.afterFetch .fetch) rfl h, atIndex_afterFetch_pc,
      byteAt_afterFetch, byteAt_atIndex, State.afterFetch_ix, State.atIndex_ix, State.atIndexBit]
  exact (execute_of_DD h h0).trans (executeUnit_of_isPrefix (s := s.atIndex) h harm rfl hexec _)

end Sys2Proof.Machine
end

section
/-! PROOFS. A step on the REF bus by what the bytes at `PC` decode to (41 sections 1 to 4): the instruction they mean,
or `DecodeFailure` where they have no arm. -/

namespace Sys2Proof.Machine

/-! ## What fetching leaves -/

/-- `u` is `s` after fetching the bytes: they are in the trace, `PC` is past them, and but for `LATCH`, the decode
state, the bus latches and the logs nothing else has changed. -/
structure State.Fetched (s u : State) (bytes : List Byte) : Prop where
  pc : u.pc = s.pc + BitVec.ofNat 16 bytes.length
  trace : ∃ records, u.trace = s.trace ++ records ∧ records.map (·.value) = bytes ∧
    ∀ r ∈ records, r.tag = .fetch ∨ r.tag = .fetchOperand
  mem : u.mem = s.mem
  cycles : u.cycles = s.cycles
  registers : u.af = s.af ∧ u.bc = s.bc ∧ u.de = s.de ∧ u.hl = s.hl ∧ u.ix = s.ix ∧ u.sp = s.sp
  control : s.sameControl u
  bus : u.map = s.map ∧ u.hooks = s.hooks

theorem State.Fetched.refl (s : State) : s.Fetched s [] where
  pc := (BitVec.add_zero s.pc).symm
  trace := ⟨[], (List.append_nil _).symm, rfl, nofun⟩
  mem := rfl
  cycles := rfl
  registers := ⟨rfl, rfl, rfl, rfl, rfl, rfl⟩
  control := ⟨rfl, rfl, rfl, rfl, rfl, rfl, rfl, rfl, rfl, rfl, rfl, rfl, rfl, rfl⟩
  bus := ⟨rfl, rfl⟩

section
variable {s u : State} {bytes : List Byte}

/-- 41 R186, R187: one more byte is fetched. -/
theorem State.Fetched.afterFetch (h : s.Fetched u bytes) {g : Tag} (hg : g = .fetch ∨ g = .fetchOperand) :
    s.Fetched (u.afterFetch g) (bytes ++ [u.byteAt u.pc]) where
  pc := by
    rw [State.afterFetch_pc, h.pc, List.length_append, List.length_singleton, BitVec.add_assoc, BitVec.ofNat_add]
    rfl
  trace := by
    obtain ⟨records, htrace, hvalues, htags⟩ := h.trace
    refine ⟨records ++ [⟨.mem, .read, u.pc, u.byteAt u.pc, g⟩], ?_, ?_, ?_⟩
    · rw [← List.append_assoc, ← htrace]
      rfl
    · rw [List.map_append, hvalues]
      rfl
    · intro r hr
      obtain hr | hr := List.mem_append.1 hr
      · exact htags r hr
      · rwa [List.mem_singleton.1 hr]
  mem := h.mem
  cycles := h.cycles
  registers := h.registers
  control := h.control
  bus := h.bus

theorem State.Fetched.writePfx (h : s.Fetched u bytes) (p : PrefixState) : s.Fetched (u.writePfx p) bytes :=
  ⟨h.pc, h.trace, h.mem, h.cycles, h.registers, h.control, h.bus⟩

theorem State.Fetched.writeLatch (h : s.Fetched u bytes) (w : Word) : s.Fetched (u.writeLatch w) bytes :=
  ⟨h.pc, h.trace, h.mem, h.cycles, h.registers, h.control, h.bus⟩

theorem State.Fetched.byteAt (h : s.Fetched u bytes) (a : Word) : u.byteAt a = s.byteAt a := by
  rw [State.byteAt, h.mem, State.byteAt]

theorem State.Fetched.afterOperands (h : s.Fetched u bytes) (arm : Arm) :
    s.Fetched (u.afterOperands arm) (bytes ++ armOperands (u.byteAt u.pc) (u.byteAt (u.pc + 1)) arm) := by
  have hbyte := h.afterFetch (.inr rfl)
  have hnext (b : Byte) (hb : s.Fetched (u.afterOperands arm) ((bytes ++ [u.byteAt u.pc]) ++ [b])) :
      s.Fetched (u.afterOperands arm) (bytes ++ [u.byteAt u.pc, b]) := by
    rwa [List.append_assoc] at hb
  cases arm with
  | undefined => exact (List.append_nil bytes).symm ▸ h
  | op i => exact (List.append_nil bytes).symm ▸ h
  | byte f => exact hbyte
  | word f => exact hnext _ (hbyte.afterFetch (.inr rfl))
  | disp f => exact hbyte.writeLatch _
  | dispByte f => exact hnext _ ((hbyte.writeLatch _).afterFetch (.inr rfl))

/-- The bytes that the step has fetched, as the fault of its end records them (41 R194). -/
theorem State.Fetched.fetchedSince (h : s.Fetched u bytes) : fetchedSince s.trace u.trace = bytes := by
  obtain ⟨records, htrace, hvalues, htags⟩ := h.trace
  have hall : records.filter (fun t => decide (t.tag = .fetch ∨ t.tag = .fetchOperand)) = records :=
    List.filter_eq_self.2 fun r hr => decide_eq_true (htags r hr)
  rw [Machine.fetchedSince, htrace, List.drop_left, hall, hvalues]

theorem State.Fetched.trace_length (h : s.Fetched u bytes) : u.trace.length = s.trace.length + bytes.length := by
  obtain ⟨records, htrace, hvalues, -⟩ := h.trace
  rw [htrace, List.length_append, ← hvalues, List.length_map]

theorem State.Fetched.onRefBus (h : s.Fetched u bytes) (href : s.onRefBus) : u.onRefBus :=
  ⟨h.bus.1.trans href.1, h.bus.2.trans href.2⟩

end

/-! ## The bytes up to the last opcode byte -/

theorem fetched_atMain (s : State) : s.Fetched s.atMain [] := (State.Fetched.refl s).writePfx _

theorem fetched_atBit (s : State) : s.Fetched s.atBit [s.byteAt s.pc] :=
  ((State.Fetched.refl s).afterFetch (.inl rfl)).writePfx _

theorem fetched_atIndex (s : State) : s.Fetched s.atIndex [s.byteAt s.pc] :=
  ((State.Fetched.refl s).afterFetch (.inl rfl)).writePfx _

theorem fetched_atIndexBit (s : State) :
    s.Fetched s.atIndexBit [s.byteAt s.pc, s.byteAt (s.pc + 1), s.byteAt (s.pc + 2)] := by
  have h := (((fetched_atIndex s).afterFetch (.inl rfl)).afterFetch (g := .fetchOperand) (.inr rfl))
  rw [atIndex_afterFetch_pc] at h
  exact (h.writeLatch _).writePfx _

end Sys2Proof.Machine
end

section
/-! PROOFS. A step on the REF bus by what the bytes at `PC` decode to (41 sections 1 to 4): the instruction they mean,
or `DecodeFailure` where they have no arm. -/

namespace Sys2Proof.Machine

/-! ## The state in which the meaning runs (41 R185, R192) -/

theorem afterFetch_writePfx (s : State) (p : PrefixState) (g : Tag) :
    (s.writePfx p).afterFetch g = (s.afterFetch g).writePfx p := rfl

theorem afterFetch_writeLatch (s : State) (w : Word) (g : Tag) :
    (s.writeLatch w).afterFetch g = (s.afterFetch g).writeLatch w := rfl

theorem writeLatch_writePfx (s : State) (p : PrefixState) (w : Word) :
    (s.writePfx p).writeLatch w = (s.writeLatch w).writePfx p := rfl

theorem writePfx_writePfx (s : State) (p q : PrefixState) : (s.writePfx p).writePfx q = s.writePfx q := rfl

@[simp] theorem byteAt_beginStep (s : State) (a : Word) : s.beginStep.byteAt a = s.byteAt a := rfl

section
variable {s : State} {bytes : List Byte} {tags : List Tag} {p : PrefixState}

theorem fetched_of_none (htags : fetchTags bytes = tags) (hpfx : prefixesOf bytes = p)
    (hd : displacementOf bytes = none) : s.fetched bytes = (s.beginStep.afterFetches tags).writePfx p := by
  rw [State.fetched, htags, hpfx, hd]

theorem fetched_of_some (htags : fetchTags bytes = tags) (hpfx : prefixesOf bytes = p) {d : Byte}
    (hd : displacementOf bytes = some d) :
    s.fetched bytes = ((s.beginStep.afterFetches tags).writePfx p).writeLatch (s.ix + signExt d) := by
  rw [State.fetched, htags, hpfx, hd]

end

/-- An instruction of the main table has one opcode byte. -/
theorem fetchTags_main {op : Byte} (hDD : op ≠ 0xDD) (hCB : op ≠ 0xCB) (operands : List Byte) :
    fetchTags (op :: operands) = .fetch :: operands.map fun _ => .fetchOperand := by
  rw [fetchTags.eq_def]
  exact (if_neg hDD).trans (if_neg hCB)

theorem prefixesOf_main {op : Byte} (hDD : op ≠ 0xDD) (hCB : op ≠ 0xCB) (operands : List Byte) :
    prefixesOf (op :: operands) = .none := by
  cases operands with
  | nil => rfl
  | cons b rest => rw [prefixesOf, if_neg hDD, if_neg hCB]

/-- An instruction of the index table has two opcode bytes. -/
theorem fetchTags_index {op : Byte} (hCB : op ≠ 0xCB) (operands : List Byte) :
    fetchTags (0xDD :: op :: operands) = .fetch :: .fetch :: operands.map fun _ => .fetchOperand := by
  rw [fetchTags.eq_def]
  exact (if_pos rfl).trans (if_neg hCB)

theorem prefixesOf_index {op : Byte} (hCB : op ≠ 0xCB) (operands : List Byte) :
    prefixesOf (0xDD :: op :: operands) = .index := by
  rw [prefixesOf, if_pos rfl, if_neg hCB]

/-- The formats of the main table have no displacement byte (30 R103). -/
def fitsMain : Arm → Bool
  | .disp _ | .dispByte _ => false
  | _ => true

theorem armOf_none_fitsMain : ∀ op : Byte, fitsMain (armOf .none op) = true := by decide

/-- The formats of the index table show by their length, and by 0x36 the one with both operand bytes (30 R103). -/
def fitsIndex (op : Byte) : Arm → Bool
  | .byte _ => false
  | .word _ => decide (op ≠ 0x36)
  | .dispByte _ => decide (op = 0x36)
  | _ => true

theorem armOf_index_fitsIndex : ∀ op : Byte, fitsIndex op (armOf .index op) = true := by decide

theorem atMain_afterOperands (s : State) {op : Byte} (hDD : op ≠ 0xDD) (hCB : op ≠ 0xCB) {arm : Arm}
    (harm : fitsMain arm = true) (b c : Byte) :
    (s.beginStep.atMain.afterFetch .fetch).afterOperands arm = s.fetched (op :: armOperands b c arm) := by
  have htags := fetchTags_main hDD hCB
  have hpfx := prefixesOf_main hDD hCB
  cases arm with
  | undefined => exact (fetched_of_none (htags []) (hpfx []) rfl).symm
  | op i => exact (fetched_of_none (htags []) (hpfx []) rfl).symm
  | byte f => exact (fetched_of_none (htags [b]) (hpfx [b]) rfl).symm
  | word f =>
    have hnone : displacementOf [op, b, c] = none := if_neg hDD
    exact (fetched_of_none (htags [b, c]) (hpfx [b, c]) hnone).symm
  | disp f => cases harm
  | dispByte f => cases harm

/-- The displacement byte of the index table is the third byte of the instruction. -/
theorem atIndex_displacement (s : State) :
    (s.beginStep.atIndex.afterFetch .fetch).ix +
      signExt ((s.beginStep.atIndex.afterFetch .fetch).byteAt (s.beginStep.atIndex.afterFetch .fetch).pc) =
    s.ix + signExt (s.byteAt (s.pc + 2)) := by
  rw [atIndex_afterFetch_pc, State.afterFetch_ix, State.atIndex_ix, byteAt_afterFetch, byteAt_atIndex]
  rfl

theorem atIndex_afterOperands (s : State) {op : Byte} (hCB : op ≠ 0xCB) {arm : Arm} (harm : fitsIndex op arm = true)
    (c : Byte) : (s.beginStep.atIndex.afterFetch .fetch).afterOperands arm =
      s.fetched (0xDD :: op :: armOperands (s.byteAt (s.pc + 2)) c arm) := by
  have htags := fetchTags_index hCB
  have hpfx := prefixesOf_index hCB
  have hlatch := atIndex_displacement s
  generalize s.byteAt (s.pc + 2) = d at hlatch
  cases arm with
  | undefined => exact (fetched_of_none (htags []) (hpfx []) rfl).symm
  | op i => exact (fetched_of_none (htags []) (hpfx []) rfl).symm
  | byte f => cases harm
  | word f =>
    have h36 : op ≠ 0x36 := of_decide_eq_true harm
    have hnone : displacementOf [0xDD, op, d, c] = none := if_neg fun h => h.2.elim hCB h36
    exact (fetched_of_none (htags [d, c]) (hpfx [d, c]) hnone).symm
  | disp f =>
    have hsome : displacementOf [0xDD, op, d] = some d := rfl
    rw [armOperands, fetched_of_some (htags [d]) (hpfx [d]) hsome, State.afterOperands, hlatch]
    rfl
  | dispByte f =>
    have h36 : op = 0x36 := of_decide_eq_true harm
    have hsome : displacementOf [0xDD, op, d, c] = some d := if_pos ⟨rfl, .inr h36⟩
    rw [armOperands, fetched_of_some (htags [d, c]) (hpfx [d, c]) hsome, State.afterOperands, hlatch]
    rfl

theorem atBit_afterFetch (s : State) (op : Byte) : s.beginStep.atBit.afterFetch .fetch = s.fetched [0xCB, op] := rfl

theorem atIndexBit_afterFetch (s : State) (op : Byte) :
    s.beginStep.atIndexBit.afterFetch .fetch = s.fetched [0xDD, 0xCB, s.byteAt (s.pc + 2), op] := by
  have hix : s.beginStep.ix + signExt (s.beginStep.byteAt (s.beginStep.pc + 2)) =
      s.ix + signExt (s.byteAt (s.pc + 2)) := rfl
  have hd : s.beginStep.byteAt (s.beginStep.pc + 2) = s.byteAt (s.pc + 2) := rfl
  rw [State.atIndexBit, hix, hd]
  generalize s.byteAt (s.pc + 2) = d
  rw [fetched_of_some (d := d) (bytes := [0xDD, 0xCB, d, op]) rfl rfl rfl]
  simp only [State.atIndex, afterFetch_writePfx, afterFetch_writeLatch, writeLatch_writePfx, writePfx_writePfx]
  rfl

end Sys2Proof.Machine
end

section
/-! PROOFS. O6, O7, O14 and O55: a step on the REF bus runs the instruction that the bytes at `PC` mean, or stops where
they have no arm. -/

namespace Sys2Proof.Machine

/-! ## The bytes have an arm -/

/-- No complete instruction is in the cells of the main table that select another table. -/
theorem ne_select_of_wellFormed {op : Byte} {bs rest : List Byte} {i : Instr} (hi : WellFormed i = true)
    (h : takeOperands .none op (armOf .none op) bs = .ok (i, rest)) : op ≠ 0xDD ∧ op ≠ 0xCB := by
  constructor
  · rintro rfl
    cases h
    cases hi
  · rintro rfl
    cases h
    cases hi

/-- The cell 0xCB of the index table selects the index+bit table. -/
theorem ne_select_of_armEncodes {op : Byte} (h : armEncodes [0xDD, op] (armOf .index op)) : op ≠ 0xCB := by
  rintro rfl
  have henc : encode .bitPrefix = [0xDD, 0xCB] := h
  cases henc

/-- The formats of the bit table have no operand byte (30 R103). -/
def fitsBit : Arm → Bool
  | .undefined | .op _ => true
  | _ => false

theorem armOf_bit_fitsBit : ∀ op : Byte, fitsBit (armOf .bit op) = true := by decide

theorem eq_op_of_fitsBit {arm : Arm} (h : fitsBit arm = true) {b c : Byte} {i : Instr}
    (harm : armRead b c arm = some i) : arm = .op i := by
  cases arm with
  | undefined => cases harm
  | op j => cases harm; rfl
  | byte f => cases h
  | word f => cases h
  | disp f => cases h
  | dispByte f => cases h

/-- The opcode byte in the selected table and its operand bytes are fetched too. -/
theorem State.Fetched.complete {s u : State} {before : List Byte} (h : s.Fetched u before) (arm : Arm) :
    s.Fetched ((u.afterFetch .fetch).afterOperands arm)
      (before ++ [u.byteAt u.pc] ++ armOperands (u.byteAt (u.pc + 1)) (u.byteAt (u.pc + 2)) arm) := by
  have hall := (h.afterFetch (.inl rfl)).afterOperands arm
  rwa [State.afterFetch_pc, byteAt_afterFetch, byteAt_afterFetch, add_one_one] at hall

/-- A complete instruction without operand bytes is run after its opcode byte. -/
theorem executeUnit_of_op {s : State} {i : Instr} (h : s.onRefBus) (hi : WellFormed i = true)
    (harm : armOf s.pfx (s.byteAt s.pc) = .op i) (again : State → Out) :
    executeUnit again s = exec i (s.afterFetch .fetch) := by
  have hread : armRead (s.byteAt (s.pc + 1)) (s.byteAt (s.pc + 2)) (armOf s.pfx (s.byteAt s.pc)) = some i := by
    rw [harm]; rfl
  rw [executeUnit_of_armRead h hi hread, harm, State.afterOperands]

theorem State.atIndex_pc (s : State) : s.atIndex.pc = s.pc + 1 := rfl

theorem atIndexBit_pc (s : State) : s.atIndexBit.pc = s.pc + 3 := (fetched_atIndexBit s).pc

theorem atIndexBit_pfx (s : State) : s.atIndexBit.pfx = .indexBit (s.byteAt (s.pc + 2)) := rfl

/-- The last opcode byte after 0xDD 0xCB and the displacement. -/
theorem byteAt_atIndexBit_pc (s : State) : s.atIndexBit.byteAt s.atIndexBit.pc = s.byteAt (s.pc + 3) := by
  rw [(fetched_atIndexBit s).byteAt, atIndexBit_pc]

theorem afterFetch_atBit_latch (s : State) : (s.beginStep.atBit.afterFetch .fetch).latch = s.latch := by
  rw [State.afterFetch_latch, State.atBit, State.writePfx_latch, State.afterFetch_latch, State.beginStep_latch]

theorem afterFetch_atIndex_latch (s : State) : (s.beginStep.atIndex.afterFetch .fetch).latch = s.latch := by
  rw [State.afterFetch_latch, State.atIndex, State.writePfx_latch, State.afterFetch_latch, State.beginStep_latch]

theorem add_one_two (a : Word) : a + 1 + 2 = a + 3 := BitVec.add_assoc a 1 2

/-- 41 R185: where the bytes at `PC` decode to an instruction, that instruction runs once they are all fetched. -/
theorem execute_of_decodes {s : State} (href : s.onRefBus) {i : Instr} {rest : List Byte}
    (h : Decodes i rest s.codeBytes) : execute s.beginStep = exec i (s.fetched (encode i)) ∧
      s.beginStep.Fetched (s.fetched (encode i)) (encode i) := by
  have href0 : s.beginStep.onRefBus := href
  obtain ⟨hi, -⟩ := h.encode
  generalize hbytes : s.codeBytes = bytes at h
  cases h with
  | main _ htake =>
    obtain ⟨hDD, hCB⟩ := ne_select_of_wellFormed hi htake
    injection hbytes with hop hbs
    subst hop hbs
    have harm := armRead_of_takeOperands htake
    rw [encode_of_armRead (armOf_none_encodes _) harm, List.singleton_append,
      ← atMain_afterOperands s hDD hCB (armOf_none_fitsMain _)]
    exact ⟨executeUnit_of_armRead (s := s.beginStep.atMain) href hi harm _, (fetched_atMain s.beginStep).complete _⟩
  | bit htake =>
    injection hbytes with h0 hbytes
    injection hbytes with hop hbs
    subst hop hbs
    have harm := armRead_of_takeOperands htake
    have hcell := eq_op_of_fitsBit (armOf_bit_fitsBit _) harm
    have henc := encode_of_armRead (armOf_bit_encodes _) harm
    have hall := (fetched_atBit s.beginStep).afterFetch (.inl rfl)
    rw [hcell, armOperands, List.append_nil] at henc
    rw [henc, ← atBit_afterFetch, execute_of_CB href0 h0]
    rw [byteAt_beginStep, State.beginStep_pc, h0] at hall
    exact ⟨executeUnit_of_op (s := s.beginStep.atBit) href hi hcell _, hall⟩
  | index hop htake =>
    have hCB := ne_select_of_armEncodes hop
    injection hbytes with h0 hbytes
    injection hbytes with h1 hbs
    subst h1 hbs
    have harm := armRead_of_takeOperands htake
    have hread : armRead (s.byteAt (s.pc + 1 + 1)) (s.byteAt (s.pc + 1 + 2)) (armOf .index (s.byteAt (s.pc + 1))) =
        some i := by rwa [add_one_one, add_one_two]
    have hall := (fetched_atIndex s.beginStep).complete (armOf .index (s.byteAt (s.pc + 1)))
    simp only [byteAt_atIndex, byteAt_beginStep, State.atIndex_pc, State.beginStep_pc, add_one_one, add_one_two,
      h0] at hall
    rw [encode_of_armRead hop harm, List.cons_append, List.cons_append, List.nil_append,
      ← atIndex_afterOperands s hCB (armOf_index_fitsIndex _), execute_of_DD href0 h0]
    exact ⟨executeUnit_of_armRead (s := s.beginStep.atIndex) href hi hread _, hall⟩
  | @indexBit d op bs htake =>
    injection hbytes with h0 hbytes
    injection hbytes with h1 hbytes
    injection hbytes with h2 hbytes
    injection hbytes with h3 hbs
    obtain hnone | ⟨j, hcell, henc⟩ := armOf_indexBit_encodes (d := d) (op := op) rfl
    · rw [hnone] at htake
      cases htake
    · rw [hcell] at htake
      cases htake
      subst h2 h3
      have hlast : s.beginStep.atIndexBit.byteAt s.beginStep.atIndexBit.pc = s.byteAt (s.pc + 3) := by
        exact byteAt_atIndexBit_pc s.beginStep
      have hrun := executeUnit_of_op ((fetched_atIndexBit s.beginStep).onRefBus href0) hi
        (by rw [hlast, atIndexBit_pfx]; exact hcell) .next
      have hall := (fetched_atIndexBit s.beginStep).afterFetch (.inl rfl)
      simp only [hlast, byteAt_beginStep, State.beginStep_pc, h0, h1] at hall
      rw [henc, ← atIndexBit_afterFetch, execute_of_DDCB href0 h0 h1]
      exact ⟨hrun, hall⟩

/-! ## The bytes have no arm -/

/-- 41 R185: where four bytes mean nothing, one of the four tables has no arm. -/
theorem undefined_of_decode {b0 b1 b2 b3 : Byte} {e : DecodeError} (h : decode [b0, b1, b2, b3] = .error e) :
    armOf .none b0 = .undefined ∨ (b0 = 0xCB ∧ armOf .bit b1 = .undefined) ∨
    (b0 = 0xDD ∧ armOf .index b1 = .undefined) ∨
    (b0 = 0xDD ∧ b1 = 0xCB ∧ armOf (.indexBit b2) b3 = .undefined) := by
  unfold decode at h
  split at h
  · next rest hunit =>
    obtain hmain := decodeUnit_none_encode hunit
    injection hmain with h0 hrest
    subst hrest
    split at h
    · next d rest hindex =>
      obtain ⟨-, hrest⟩ | ⟨hwf, -⟩ := decodeUnit_index_eq_ok hindex
      · cases hrest
        exact .inr (.inr (.inr ⟨h0, rfl, by
          obtain harm | ⟨j, harm, -⟩ := armOf_indexBit_encodes (d := b2) (op := b3) rfl
          · exact harm
          · rw [decodeUnit, harm] at h
            cases h⟩))
      · cases hwf
    · next hindex =>
      obtain ⟨-, hrest⟩ | ⟨hwf, -⟩ := decodeUnit_index_eq_ok hindex
      · cases hrest
      · cases hwf
    · exact .inr (.inr (.inl ⟨h0, undefined_of_takeOperands h⟩))
  · next rest hunit =>
    obtain hmain := decodeUnit_none_encode hunit
    injection hmain with h0 hrest
    subst hrest
    exact .inr (.inl ⟨h0, undefined_of_takeOperands h⟩)
  · exact .inl (undefined_of_takeOperands h)

/-- What a byte without an arm leaves (41 R194): `u` is the state after fetching the bytes up to it. -/
structure State.NoArm (s u : State) (bytes : List Byte) : Prop where
  fetched : s.beginStep.Fetched u bytes
  code : bytes = s.codeBytes.take bytes.length
  length : bytes.length = 1 ∨ bytes.length = 2 ∨ bytes.length = 4
  latch : u.latch = s.latch ∨ bytes.take 2 = [0xDD, 0xCB]

/-- 41 R194: where the bytes at `PC` have no arm, the rounds end without a meaning. -/
theorem execute_of_error {s : State} (href : s.onRefBus) {e : DecodeError} (h : decode s.codeBytes = .error e) :
    ∃ u bytes, execute s.beginStep = .next u ∧ s.NoArm u bytes := by
  have href0 : s.beginStep.onRefBus := href
  obtain hcell | ⟨h0, hcell⟩ | ⟨h0, hcell⟩ | ⟨h0, h1, hcell⟩ := undefined_of_decode h
  · have hrun := executeUnit_of_undefined (s := s.beginStep.atMain) href hcell (executeUnit (executeUnit .next))
    have hall := (fetched_atMain s.beginStep).afterFetch (.inl rfl)
    exact ⟨_, [s.byteAt s.pc], hrun, hall, rfl, .inl rfl, .inl rfl⟩
  · have hrun := executeUnit_of_undefined (s := s.beginStep.atBit) href hcell (executeUnit .next)
    have hall := (fetched_atBit s.beginStep).afterFetch (.inl rfl)
    exact ⟨_, [s.byteAt s.pc, s.byteAt (s.pc + 1)], (execute_of_CB href0 h0).trans hrun, hall, rfl, .inr (.inl rfl),
      .inl (afterFetch_atBit_latch s)⟩
  · have hrun := executeUnit_of_undefined (s := s.beginStep.atIndex) href hcell (executeUnit .next)
    have hall := (fetched_atIndex s.beginStep).afterFetch (.inl rfl)
    exact ⟨_, [s.byteAt s.pc, s.byteAt (s.pc + 1)], (execute_of_DD href0 h0).trans hrun, hall, rfl, .inr (.inl rfl),
      .inl (afterFetch_atIndex_latch s)⟩
  · have hlast := byteAt_atIndexBit_pc s.beginStep
    have hrun := executeUnit_of_undefined ((fetched_atIndexBit s.beginStep).onRefBus href0)
      (by rw [hlast, atIndexBit_pfx]; exact hcell) .next
    have hall := (fetched_atIndexBit s.beginStep).afterFetch (.inl rfl)
    rw [hlast] at hall
    have hselect : [s.byteAt s.pc, s.byteAt (s.pc + 1)] = [0xDD, 0xCB] := by rw [h0, h1]
    exact ⟨_, [s.byteAt s.pc, s.byteAt (s.pc + 1), s.byteAt (s.pc + 2), s.byteAt (s.pc + 3)],
      (execute_of_DDCB href0 h0 h1).trans hrun, hall, rfl, .inr (.inr rfl), .inr hselect⟩

end Sys2Proof.Machine
end

section
/-! PROOFS. O6, O7, O14 and O55: whole steps of a ready machine. -/

namespace Sys2Proof.Machine

/-- 41 R183: with no line to be serviced, a machine that is not halted executes. -/
theorem pollAndAct_of_ready {s : State} (h : s.ready) : s.beginStep.pollAndAct = execute s.beginStep := by
  obtain ⟨-, -, -, hhalted, hreset, hnmi, hint⟩ := h
  have hsame : s.beginStep.resetLine = s.resetLine ∧ s.beginStep.nmiLine = s.nmiLine ∧
      (s.beginStep.intLine && s.beginStep.iff) = (s.intLine && s.iff) ∧ s.beginStep.halted = s.halted :=
    ⟨rfl, rfl, rfl, rfl⟩
  obtain ⟨hreset', hnmi', hint', hhalted'⟩ := hsame
  rw [State.pollAndAct, hreset', hnmi', hint', hhalted', if_neg (by simp [hreset]), if_neg (by simp [hnmi]),
    if_neg (by simp [hint]), if_neg (by simp [hhalted])]

theorem step_of_ready {s : State} (h : s.ready) : step s = endStep s (execute s.beginStep) := by
  obtain ⟨-, hpowered, hfaulted, -⟩ := id h
  rw [step_of_powered hpowered hfaulted, pollAndAct_of_ready h]

/-- 41 R180: where the bytes at `PC` decode, the step runs the instruction and adds its cost. -/
theorem step_of_decodes {s : State} {i : Instr} {rest : List Byte} (h : s.ready) (hi : Decodes i rest s.codeBytes) :
    s.beginStep.Fetched (s.fetched (encode i)) (encode i) ∧
    ∃ t, exec i (s.fetched (encode i)) = .next t ∧ step s = .next ((t.emit .executedInstruction).writePfx .none) := by
  obtain ⟨href, -⟩ := id h
  obtain ⟨hwf, -⟩ := hi.encode
  obtain ⟨hrun, hfetched⟩ := execute_of_decodes href hi
  obtain ⟨t, hexec, -⟩ := everyInstructionRunsOnRefBus.1 i _ hwf (hfetched.onRefBus href)
  obtain ⟨u, n, hu, rfl, hn, -⟩ := (exec_ran hwf _).next t hexec
  have hcost : (u.addCycles n).cycles ≠ 0 := by rw [State.addCycles_cycles]; omega
  exact ⟨hfetched, _, hexec, by rw [step_of_ready h, hrun, hexec, endStep_next_of_cost hcost]⟩

/-- Settles O6: the rounds of the fetch lead to the meaning, whose cost passes the zero test. -/
theorem stepRunsTheDecodedInstruction : Obligations.StepRunsTheDecodedInstruction := by
  intro s i rest h hdecode
  have hi := decodes_of_decode hdecode
  obtain ⟨hwf, -⟩ := hi.encode
  obtain ⟨hfetched, t, hexec, hstep⟩ := step_of_decodes h hi
  exact ⟨hwf, t, hexec, hstep, hfetched.pc, hfetched.cycles, hfetched.mem⟩

/-- 41 R194: where the bytes at `PC` have no arm, no cost is added and the zero test stops the step. -/
theorem step_of_error {s : State} {e : DecodeError} (h : s.ready) (he : decode s.codeBytes = .error e) :
    ∃ u bytes, s.NoArm u bytes ∧ step s =
      .fault (.decodeFailure { (u.emit .executedInstruction).writePfx .none with faulted := true } s.pc bytes) := by
  obtain ⟨href, -⟩ := id h
  obtain ⟨u, bytes, hrun, hnone⟩ := execute_of_error href he
  have hfetched : fetchedSince s.trace u.trace = bytes := hnone.fetched.fetchedSince
  refine ⟨u, bytes, hnone, ?_⟩
  rw [step_of_ready h, hrun, ← hfetched]
  exact if_pos hnone.fetched.cycles

/-- Settles O7: a decoding step goes on, and one without an arm stops with what it has fetched. -/
theorem stepFailsExactlyWithoutArm : Obligations.StepFailsExactlyWithoutArm := by
  intro s h
  have hsplit : (∃ e, decode s.codeBytes = .error e) ∨ ∃ t, step s = .next t := by
    cases hdecode : decode s.codeBytes with
    | error e => exact .inl ⟨e, rfl⟩
    | ok r =>
      obtain ⟨-, t, -, hstep⟩ := step_of_decodes h (decodes_of_decode hdecode)
      exact .inr ⟨_, hstep⟩
  have hfails {left : State} {first : Word} {bytes : List Byte}
      (hstep : step s = .fault (.decodeFailure left first bytes)) : ∃ e, decode s.codeBytes = .error e :=
    hsplit.resolve_right fun ⟨t, hnext⟩ => nomatch hstep.symm.trans hnext
  refine ⟨⟨fun ⟨left, first, bytes, hstep⟩ => hfails hstep, fun ⟨e, he⟩ => ?stops⟩,
    fun left first bytes hstep => ?leaves⟩
  case stops =>
    obtain ⟨u, bytes, -, hstep⟩ := step_of_error h he
    exact ⟨_, _, _, hstep⟩
  case leaves =>
    obtain ⟨e, he⟩ := hfails hstep
    obtain ⟨u, bytes', hnone, hstep'⟩ := step_of_error h he
    cases hstep.symm.trans hstep'
    obtain ⟨haf, hbc, hde, hhl, hix, hsp⟩ := hnone.fetched.registers
    obtain ⟨hafAlt, hbcAlt, hdeAlt, hhlAlt, hi, him, hiff, hhalted, hpowered, hfaulted, hreset, hnmi, hint, hdata⟩ :=
      hnone.fetched.control
    exact ⟨rfl, hnone.code, hnone.length, hnone.fetched.pc, hnone.fetched.trace_length, hnone.fetched.cycles, rfl,
      hnone.fetched.mem, haf, hbc, hde, hhl, hix, hsp,
      ⟨hafAlt, hbcAlt, hdeAlt, hhlAlt, hi, him, hiff, hhalted, hpowered, rfl, hreset, hnmi, hint, hdata⟩, hnone.latch⟩

/-! ## The halted machine (60 R381) -/

theorem acknowledged_onRefBus {s : State} (h : s.onRefBus) : s.acknowledged.onRefBus := by
  unfold State.acknowledged
  split
  · exact h
  · split <;> exact h

theorem step_onRefBus {s t : State} (href : s.onRefBus) (h : step s = .next t) : t.onRefBus := by
  obtain ⟨-, rfl⟩ | ⟨-, -, u, n, -, hu, -, rfl⟩ := step_eq_next h
  · exact href
  · have hstart : s.beginStep.onRefBus := href
    exact hu.onRefBus (acknowledged_onRefBus hstart)

/-- The service of a line wakes the machine. -/
theorem step_awake_of_line {s t : State} (href : s.onRefBus) (hpowered : s.powered = true)
    (hfaulted : s.faulted = false)
    (hline : s.resetLine = true ∨ s.nmiLine = true ∨ (s.intLine && s.iff) = true) (h : step s = .next t) :
    t.halted = false := by
  cases hreset : s.resetLine with
  | true =>
    rw [step_of_reset hpowered hfaulted hreset, afterReset_eq] at h
    cases h
    rfl
  | false =>
    cases hnmi : s.nmiLine with
    | true =>
      rw [step_of_nmi href hpowered hfaulted hreset hnmi] at h
      cases h
      obtain ⟨-, -, -, -, -, -, -, hawake, -⟩ := (savedReturn_afterNmi s).control
      exact hawake
    | false =>
      obtain ⟨hint, hiff⟩ : s.intLine = true ∧ s.iff = true := by simpa [hreset, hnmi] using hline
      rw [step_of_int href hpowered hfaulted hreset hnmi hint hiff] at h
      cases h
      obtain ⟨-, -, -, -, -, -, -, hawake, -⟩ := (savedReturn_afterInt s).control
      exact hawake

/-- Of the instructions only `HALT` halts, and it leaves `PC` at its own byte (47 R341). -/
theorem step_halted_of_ready {s t : State} (hready : s.ready) (h : step s = .next t) (ht : t.halted = true) :
    t.pc = s.pc ∧ t.mem = s.mem ∧ s.byteAt s.pc = 0x76 := by
  cases hdecode : decode s.codeBytes with
  | error e =>
    obtain ⟨u, bytes, -, hstep⟩ := step_of_error hready hdecode
    cases h.symm.trans hstep
  | ok r =>
    obtain ⟨i, rest⟩ := r
    have hi := decodes_of_decode hdecode
    obtain ⟨hwf, hcode, -⟩ := hi.encode
    obtain ⟨hfetched, v, hexec, hstep⟩ := step_of_decodes hready hi
    cases h.symm.trans hstep
    obtain ⟨u, n, hu, hv, -⟩ := (exec_ran hwf _).next v hexec
    obtain ⟨-, -, -, -, -, -, -, hawake, -⟩ := hfetched.control
    obtain ⟨-, -, -, hhalted, -⟩ := hready
    obtain hbefore | rfl := hu.halted ((congrArg State.halted hv).symm.trans ht)
    · cases hbefore.symm.trans (hawake.trans hhalted)
    · obtain ⟨-, -, -, -, -, -, -, -, hhalt⟩ := systemInstructions
      obtain ⟨-, hhalt, -⟩ := hhalt (s.fetched (encode .halt))
      cases hexec.symm.trans hhalt
      injection hcode with hop _
      have hpc : (s.fetched (encode .halt)).pc - 1 = s.pc := by
        rw [hfetched.pc]
        exact BitVec.add_sub_cancel _ _
      exact ⟨hpc, hfetched.mem, hop⟩

/-- Settles O14: a service wakes the machine, the halted step stays where it is, and `HALT` stays at its byte. -/
theorem stepKeepsHaltInv : Obligations.StepKeepsHaltInv := by
  rintro s t ⟨href, hbyte⟩ h
  refine ⟨step_onRefBus href h, fun ht => ?_⟩
  by_cases hidle : s.powered = false ∨ s.faulted = true
  · rw [step_of_idle hidle] at h
    cases h
    exact hbyte ht
  obtain ⟨hpowered, hfaulted⟩ : s.powered = true ∧ s.faulted = false := by simpa using hidle
  by_cases hline : s.resetLine = true ∨ s.nmiLine = true ∨ (s.intLine && s.iff) = true
  · cases (step_awake_of_line href hpowered hfaulted hline h).symm.trans ht
  · obtain ⟨hreset, hnmi, hint⟩ : s.resetLine = false ∧ s.nmiLine = false ∧ (s.intLine && s.iff) = false := by
      simpa only [not_or, Bool.not_eq_true] using hline
    cases hhalted : s.halted with
    | true =>
      rw [step_of_halted hpowered hfaulted hhalted hreset hnmi hint] at h
      cases h
      exact hbyte hhalted
    | false =>
      obtain ⟨hpc, hmem, hcode⟩ :=
        step_halted_of_ready ⟨href, hpowered, hfaulted, hhalted, hreset, hnmi, hint⟩ h ht
      rw [State.byteAt, hmem, hpc]
      exact hcode

/-! ## EI (47 R345) -/

/-- 60 R381, R383: the service of `INT` in a machine that was not halted pushes `PC` itself. -/
theorem afterInt_of_awake {s : State} (h : s.halted = false) : s.afterInt.iff = false ∧ s.afterInt.sp = s.sp - 2 ∧
    s.afterInt.byteAt (s.sp - 1) = hiByte s.pc ∧ s.afterInt.byteAt (s.sp - 2) = loByte s.pc := by
  have hsaved := savedReturn_afterInt s
  have hreturn : s.interruptedByInt.pc = s.pc := if_neg (by simp [h])
  have hhigh := hsaved.high
  have hlow := hsaved.low
  rw [hreturn] at hhigh hlow
  obtain ⟨-, -, -, -, -, -, hiff, -⟩ := hsaved.control
  exact ⟨hiff, hsaved.sp, hhigh, hlow⟩

/-- The step that runs `EI` sets `IFF`, and `PC` is past it (47 R345). -/
theorem step_of_EI {s : State} (hready : s.ready) (hbyte : s.byteAt s.pc = 0xFB) : ∃ t, step s = .next t ∧
    t.iff = true ∧ t.pc = s.pc + 1 ∧ t.sp = s.sp ∧ t.halted = false ∧ t.powered = true ∧ t.faulted = false ∧
    t.resetLine = false ∧ t.nmiLine = false ∧ t.intLine = s.intLine := by
  obtain ⟨-, hpowered, hfaulted, hhalted, hreset, hnmi, -⟩ := id hready
  have hcode : s.codeBytes = encode .ei ++ [s.byteAt (s.pc + 1), s.byteAt (s.pc + 2), s.byteAt (s.pc + 3)] :=
    congrArg (· :: _) hbyte
  have hdecode := hcode ▸ decodeOfEncode .ei _ rfl
  obtain ⟨hfetched, v, hexec, hstep⟩ := step_of_decodes hready (decodes_of_decode hdecode)
  obtain ⟨-, -, -, -, -, -, -, -, henable⟩ := systemInstructions
  obtain ⟨-, -, -, henable, -⟩ := henable (s.fetched (encode .ei))
  cases hexec.symm.trans henable
  obtain ⟨-, -, -, -, -, -, -, hhalted', hpowered', hfaulted', hreset', hnmi', hline, -⟩ := hfetched.control
  obtain ⟨-, -, -, -, -, hsp⟩ := hfetched.registers
  exact ⟨_, hstep, rfl, hfetched.pc, hsp, hhalted'.trans hhalted, hpowered'.trans hpowered, hfaulted'.trans hfaulted,
    hreset'.trans hreset, hnmi'.trans hnmi, hline⟩

/-- Settles O55: the step that runs `EI` leaves the line and `IFF` raised, and the next one services them. -/
theorem enableTakesEffectAtOnce : Obligations.EnableTakesEffectAtOnce := by
  intro s hready hbyte hline
  obtain ⟨href, -⟩ := id hready
  obtain ⟨t, hstep, hiff, hpc, hsp, hhalted, hpowered, hfaulted, hreset, hnmi, hkept⟩ := step_of_EI hready hbyte
  have hservice := step_of_int (step_onRefBus href hstep) hpowered hfaulted hreset hnmi (hkept.trans hline) hiff
  have hpushed := afterInt_of_awake hhalted
  rw [hsp, hpc] at hpushed
  exact ⟨t, t.afterInt, hstep, hiff, hpc, hservice, hpushed⟩

end Sys2Proof.Machine
end

section
/-! PROOFS. O44 and O45, the frames of the forms with an 8-bit operand: what each update of the state leaves, and so
what each of the shared operations of 42, 43 and 45 leaves on the REF bus. -/

namespace Sys2Proof.Machine

/-! ## The frame -/

/-- From `s` to `t` no 8-bit register but `dst` has changed, no byte but those at `stored`, and neither `IX`, `SP`, `PC`
nor the control state; nor the stored flags byte where `keepsF` says so. -/
structure State.Keeps8 (dst : Option Reg8) (keepsF : Prop) (stored : List Word) (s t : State) : Prop where
  read8 : ∀ r, dst ≠ some r → t.read8 r = s.read8 r
  flags : keepsF → loByte t.af = loByte s.af
  ix : t.ix = s.ix
  sp : t.sp = s.sp
  pc : t.pc = s.pc
  control : s.sameControl t
  bytes : ∀ a, a ∉ stored → t.byteAt a = s.byteAt a

theorem State.sameControl_refl (s : State) : s.sameControl s :=
  ⟨rfl, rfl, rfl, rfl, rfl, rfl, rfl, rfl, rfl, rfl, rfl, rfl, rfl, rfl⟩

section
variable {dst : Option Reg8} {keepsF : Prop} {stored : List Word} {s t u : State}

theorem State.Keeps8.refl : s.Keeps8 dst keepsF stored s :=
  ⟨fun _ _ => rfl, fun _ => rfl, rfl, rfl, rfl, s.sameControl_refl, fun _ _ => rfl⟩

theorem State.sameControl_trans (h : s.sameControl t) (k : t.sameControl u) : s.sameControl u := by
  obtain ⟨h1, h2, h3, h4, h5, h6, h7, h8, h9, h10, h11, h12, h13, h14⟩ := h
  obtain ⟨k1, k2, k3, k4, k5, k6, k7, k8, k9, k10, k11, k12, k13, k14⟩ := k
  exact ⟨k1.trans h1, k2.trans h2, k3.trans h3, k4.trans h4, k5.trans h5, k6.trans h6, k7.trans h7, k8.trans h8,
    k9.trans h9, k10.trans h10, k11.trans h11, k12.trans h12, k13.trans h13, k14.trans h14⟩

theorem State.Keeps8.trans (h : s.Keeps8 dst keepsF stored t) (k : t.Keeps8 dst keepsF stored u) :
    s.Keeps8 dst keepsF stored u where
  read8 r hr := (k.read8 r hr).trans (h.read8 r hr)
  flags hF := (k.flags hF).trans (h.flags hF)
  ix := k.ix.trans h.ix
  sp := k.sp.trans h.sp
  pc := k.pc.trans h.pc
  control := State.sameControl_trans h.control k.control
  bytes a ha := (k.bytes a ha).trans (h.bytes a ha)

/-! ## What each update keeps -/

theorem keeps8_addCycles (n : Nat) : s.Keeps8 dst keepsF stored (s.addCycles n) :=
  ⟨fun r _ => read8_addCycles s n r, fun _ => rfl, rfl, rfl, rfl, s.sameControl_refl, fun _ _ => rfl⟩

theorem keeps8_writeLatch (w : Word) : s.Keeps8 dst keepsF stored (s.writeLatch w) :=
  ⟨fun r _ => read8_writeLatch s w r, fun _ => rfl, rfl, rfl, rfl, s.sameControl_refl, fun _ _ => rfl⟩

theorem keeps8_writeF (hF : ¬ keepsF) (v : Byte) : s.Keeps8 dst keepsF stored (s.writeF v) :=
  ⟨fun r _ => read8_writeF s v r, fun h => absurd h hF, rfl, rfl, rfl, s.sameControl_refl, fun _ _ => rfl⟩

theorem keeps8_afterRead8 (l : Loc) : s.Keeps8 dst keepsF stored (s.afterRead8 l) where
  read8 r _ := read8_afterRead8 s l r
  flags _ := congrArg loByte (State.afterRead8_af s l)
  ix := by simp
  sp := by simp
  pc := by simp
  control := by simp [State.sameControl]
  bytes a _ := byteAt_afterRead8 s l a

theorem keeps8_afterSrc (src : AluSrc) : s.Keeps8 dst keepsF stored (s.afterSrc src) := by
  cases src with
  | loc l => exact keeps8_afterRead8 l
  | imm n => exact .refl

theorem keeps8_write8 {r : Reg8} (hdst : dst = some r) (v : Byte) : s.Keeps8 dst keepsF stored (s.write8 r v) where
  read8 q hq := read8_write8_of_ne s r v fun h => hq (hdst.trans (congrArg some h))
  flags _ := by cases r <;> simp [State.write8, State.writeA]
  ix := by simp
  sp := by simp
  pc := by simp
  control := by simp [State.sameControl]
  bytes a _ := byteAt_write8 s r v a

theorem keeps8_afterWrite {a : Word} (ha : a ∈ stored) (v : Byte) (g : Tag) :
    s.Keeps8 dst keepsF stored (s.afterWrite a v g) where
  read8 r _ := read8_afterWrite s a v g r
  flags _ := rfl
  ix := rfl
  sp := rfl
  pc := rfl
  control := s.sameControl_refl
  bytes b hb := (byteAt_afterWrite s a b v g).trans (if_neg fun h : b = a => hb (h ▸ ha))

/-- The operand is the destination register, or its address is stored to (41 R192). -/
theorem keeps8_afterWrite8 {l : Loc} (hreg : ∀ r, l = .reg r → dst = some r)
    (hmem : ∀ a, s.address8 l = some a → a ∈ stored) (v : Byte) :
    s.Keeps8 dst keepsF stored (s.afterWrite8 l v) := by
  cases l with
  | reg r => exact keeps8_write8 (hreg r rfl) v
  | atHL => exact keeps8_afterWrite (hmem s.hl rfl) v .data
  | atIX d => exact (keeps8_writeLatch _).trans (keeps8_afterWrite (hmem _ rfl) v .data)

theorem address8_afterRead8 (s : State) (l : Loc) : (s.afterRead8 l).address8 l = s.address8 l := by
  cases l <;> rfl

/-! ## What each form keeps -/

theorem load8_keeps {r : Reg8} {l : Loc} (href : s.onRefBus) (h : exec (Form.load8 r l) s = .next t)
    (hdst : dst = some r) : s.Keeps8 dst keepsF stored t := by
  rw [exec_load8, load8_ref href] at h
  cases h
  exact ((keeps8_afterRead8 l).trans (keeps8_write8 hdst _)).trans (keeps8_addCycles _)

theorem alu_keeps {op : AluOp} {src : AluSrc} {i : Instr} (href : s.onRefBus) (hi : Form.alu op src = some i)
    (h : exec i s = .next t) (hdst : dst = some .a) (hF : ¬ keepsF) : s.Keeps8 dst keepsF stored t := by
  rw [exec_alu hi, alu_ref href] at h
  cases h
  exact (((keeps8_afterSrc src).trans (keeps8_write8 hdst _)).trans (keeps8_writeF hF _)).trans (keeps8_addCycles _)

theorem bit_keeps {y : Oct} {l : Loc} (href : s.onRefBus) (h : exec (Form.bit y l) s = .next t) (hF : ¬ keepsF) :
    s.Keeps8 dst keepsF stored t := by
  rw [exec_bit, bitTest_ref href] at h
  cases h
  exact ((keeps8_afterRead8 l).trans (keeps8_writeF hF _)).trans (keeps8_addCycles _)

/-- The operand of a form that writes it is the destination register, or is at a stored address. -/
structure State.WritesTo (s : State) (dst : Option Reg8) (stored : List Word) (l : Loc) : Prop where
  register : ∀ r, l = .reg r → dst = some r
  memory : ∀ a, s.address8 l = some a → a ∈ stored

variable {l : Loc}

theorem writesTo_register {r : Reg8} (hdst : dst = some r) : s.WritesTo dst stored (.reg r) :=
  ⟨fun _ h => Loc.reg.inj h ▸ hdst, nofun⟩

theorem writesTo_address {a : Word} (ha : s.address8 l = some a) : s.WritesTo dst [a] l where
  register r hr := by rw [hr] at ha; cases ha
  memory b hb := List.mem_singleton.2 (Option.some.inj (hb.symm.trans ha))

theorem keeps8_store (hl : s.WritesTo dst stored l) (v : Byte) : s.Keeps8 dst keepsF stored (s.afterWrite8 l v) :=
  keeps8_afterWrite8 hl.register hl.memory v

theorem keeps8_rewrite (hl : s.WritesTo dst stored l) (v : Byte) :
    s.Keeps8 dst keepsF stored ((s.afterRead8 l).afterWrite8 l v) :=
  (keeps8_afterRead8 l).trans
    (keeps8_afterWrite8 hl.register (fun a ha => hl.memory a ((address8_afterRead8 s l).symm.trans ha)) v)

/-- The operand is read and written again, and then the flags (43 R262, R263; 45). -/
theorem keeps8_rewrite_writeF (hl : s.WritesTo dst stored l) (hF : ¬ keepsF) (v f : Byte) (n : Nat) :
    s.Keeps8 dst keepsF stored ((((s.afterRead8 l).afterWrite8 l v).writeF f).addCycles n) :=
  ((keeps8_rewrite hl v).trans (keeps8_writeF hF f)).trans (keeps8_addCycles n)

theorem loadImm_keeps {n : Byte} (href : s.onRefBus) (h : exec (Form.loadImm n l) s = .next t)
    (hl : s.WritesTo dst stored l) : s.Keeps8 dst keepsF stored t := by
  rw [exec_loadImm, loadImm_ref href] at h
  cases h
  exact (keeps8_store hl _).trans (keeps8_addCycles _)

theorem storeHL_keeps {r : Reg8} (href : s.onRefBus) (h : exec (Form.storeHL r) s = .next t)
    (hl : s.WritesTo dst stored .atHL) : s.Keeps8 dst keepsF stored t := by
  rw [exec_storeHL, store8_ref href] at h
  cases h
  exact (keeps8_store hl _).trans (keeps8_addCycles _)

theorem storeIX_keeps {r : Reg8} {d : Byte} (href : s.onRefBus) (h : exec (Form.storeIX d r) s = .next t)
    (hl : s.WritesTo dst stored (.atIX d)) : s.Keeps8 dst keepsF stored t := by
  rw [exec_storeIX, store8_ref href] at h
  cases h
  exact (keeps8_store hl _).trans (keeps8_addCycles _)

theorem inc8_keeps (href : s.onRefBus) (h : exec (Form.inc8 l) s = .next t) (hl : s.WritesTo dst stored l)
    (hF : ¬ keepsF) : s.Keeps8 dst keepsF stored t := by
  rw [exec_inc8, inc8_ref href] at h
  cases h
  exact keeps8_rewrite_writeF hl hF _ _ _

theorem dec8_keeps (href : s.onRefBus) (h : exec (Form.dec8 l) s = .next t) (hl : s.WritesTo dst stored l)
    (hF : ¬ keepsF) : s.Keeps8 dst keepsF stored t := by
  rw [exec_dec8, dec8_ref href] at h
  cases h
  exact keeps8_rewrite_writeF hl hF _ _ _

theorem rot_keeps {op : RotOp} (href : s.onRefBus) (h : exec (Form.rot op l) s = .next t)
    (hl : s.WritesTo dst stored l) (hF : ¬ keepsF) : s.Keeps8 dst keepsF stored t := by
  rw [exec_rot, rot_ref href] at h
  cases h
  exact keeps8_rewrite_writeF hl hF _ _ _

theorem res_keeps {y : Oct} (href : s.onRefBus) (h : exec (Form.res y l) s = .next t) (hl : s.WritesTo dst stored l) :
    s.Keeps8 dst keepsF stored t := by
  rw [exec_res, bitReset_ref href] at h
  cases h
  exact (keeps8_rewrite hl _).trans (keeps8_addCycles _)

theorem set_keeps {y : Oct} (href : s.onRefBus) (h : exec (Form.set y l) s = .next t) (hl : s.WritesTo dst stored l) :
    s.Keeps8 dst keepsF stored t := by
  rw [exec_set, bitSet_ref href] at h
  cases h
  exact (keeps8_rewrite hl _).trans (keeps8_addCycles _)

end

/-! ## The obligations -/

/-- Settles O44: the destination is a register, so each operation stores nothing; the flags by the forms that write no
`F`. -/
theorem frameNoStore : Obligations.FrameNoStore := by
  intro i dst hi s t href h
  have hkeeps : s.Keeps8 dst False [] t := by
    obtain ⟨r, l, rfl, hdst⟩ | ⟨r, n, rfl, hdst⟩ | ⟨op, src, hi, hdst⟩ | ⟨r, rfl | rfl, hdst⟩ | ⟨op, r, rfl, hdst⟩ |
      ⟨y, l, rfl, -⟩ | ⟨y, r, rfl | rfl, hdst⟩ := hi
    · exact load8_keeps href h hdst
    · exact loadImm_keeps href h (writesTo_register hdst)
    · exact alu_keeps href hi h hdst id
    · exact inc8_keeps href h (writesTo_register hdst) id
    · exact dec8_keeps href h (writesTo_register hdst) id
    · exact rot_keeps href h (writesTo_register hdst) id
    · exact bit_keeps href h id
    · exact res_keeps href h (writesTo_register hdst)
    · exact set_keeps href h (writesTo_register hdst)
  refine ⟨hkeeps.read8, hkeeps.ix, hkeeps.sp, hkeeps.pc, hkeeps.control,
    fun a => hkeeps.bytes a List.not_mem_nil, fun hflags => ?flags⟩
  case flags =>
    have hkeepsF : ∃ r, s.Keeps8 (some r) True [] t := by
      obtain ⟨r, l, rfl⟩ | ⟨r, n, rfl⟩ | ⟨y, r, rfl | rfl⟩ := hflags
      · exact ⟨r, load8_keeps href h rfl⟩
      · exact ⟨r, loadImm_keeps href h (writesTo_register rfl)⟩
      · exact ⟨r, res_keeps href h (writesTo_register rfl)⟩
      · exact ⟨r, set_keeps href h (writesTo_register rfl)⟩
    obtain ⟨r, hr⟩ := hkeepsF
    exact hr.flags trivial

/-- What a form that stores a byte at `a` keeps, but for the flags, is what O45 says. -/
theorem State.Keeps8.frame {keepsF : Prop} {s t : State} {a : Word} (h : s.Keeps8 none keepsF [a] t) :
    (∀ b, b ≠ a → t.byteAt b = s.byteAt b) ∧ (∀ r, t.read8 r = s.read8 r) ∧ t.ix = s.ix ∧ t.sp = s.sp ∧ t.pc = s.pc ∧
      s.sameControl t :=
  ⟨fun b hb => h.bytes b fun hmem => hb (List.mem_singleton.1 hmem), fun r => h.read8 r nofun, h.ix, h.sp, h.pc,
    h.control⟩

/-- Settles O45: the operand is in memory, so no register is a destination and its address is the one stored to. -/
theorem frameStoreByte : Obligations.FrameStoreByte := by
  intro i l hi s t a href ha h
  have hl : s.WritesTo none [a] l := writesTo_address ha
  have hkeeps : s.Keeps8 none True [a] t ∨ s.Keeps8 none False [a] t ∧
      (i = Form.inc8 l ∨ i = Form.dec8 l ∨ ∃ op, i = Form.rot op l) := by
    obtain ⟨r, rfl, rfl⟩ | ⟨r, d, rfl, rfl⟩ | ⟨n, rfl⟩ | rfl | rfl | ⟨op, rfl⟩ | ⟨y, rfl | rfl⟩ := hi
    · exact .inl (storeHL_keeps href h hl)
    · exact .inl (storeIX_keeps href h hl)
    · exact .inl (loadImm_keeps href h hl)
    · exact .inr ⟨inc8_keeps href h hl id, .inl rfl⟩
    · exact .inr ⟨dec8_keeps href h hl id, .inr (.inl rfl)⟩
    · exact .inr ⟨rot_keeps href h hl id, .inr (.inr ⟨op, rfl⟩)⟩
    · exact .inl (res_keeps href h hl)
    · exact .inl (set_keeps href h hl)
  obtain hkeeps | ⟨hkeeps, hflags⟩ := hkeeps
  · obtain ⟨hbytes, hregs, hix, hsp, hpc, hcontrol⟩ := hkeeps.frame
    have hF : t.readF = s.readF := by rw [State.readF, hkeeps.flags trivial, State.readF]
    exact ⟨hbytes, hregs, hix, hsp, hpc, hcontrol, .inl hF⟩
  · obtain ⟨hbytes, hregs, hix, hsp, hpc, hcontrol⟩ := hkeeps.frame
    exact ⟨hbytes, hregs, hix, hsp, hpc, hcontrol, .inr hflags⟩

end Sys2Proof.Machine
end

section
/-! PROOFS. O46 and O47, the frames of the forms that store `A` or a word, use the stack, write a 16-bit register or
jump: what each update of the state leaves, and so what each form leaves on the REF bus. -/

namespace Sys2Proof.Machine

/-! ## The frame -/

/-- From `s` to `t` no 16-bit register but those at `written` has changed, no byte but those at `stored`, and no control
state; nor the accumulator and the flags where `keepsAF` says so. -/
structure State.Keeps16 (written : List Reg16) (keepsAF : Prop) (stored : List Word) (s t : State) : Prop where
  read16 : ∀ r, r ∉ written → t.read16 r = s.read16 r
  af : keepsAF → t.af = s.af
  control : s.sameControl t
  bytes : ∀ a, a ∉ stored → t.byteAt a = s.byteAt a

section
variable {written : List Reg16} {keepsAF : Prop} {stored : List Word} {s t u : State}

theorem State.Keeps16.refl : s.Keeps16 written keepsAF stored s :=
  ⟨fun _ _ => rfl, fun _ => rfl, s.sameControl_refl, fun _ _ => rfl⟩

theorem State.Keeps16.trans (h : s.Keeps16 written keepsAF stored t) (k : t.Keeps16 written keepsAF stored u) :
    s.Keeps16 written keepsAF stored u where
  read16 r hr := (k.read16 r hr).trans (h.read16 r hr)
  af hAF := (k.af hAF).trans (h.af hAF)
  control := State.sameControl_trans h.control k.control
  bytes a ha := (k.bytes a ha).trans (h.bytes a ha)

/-! ## What each update keeps -/

theorem keeps16_addCycles (n : Nat) : s.Keeps16 written keepsAF stored (s.addCycles n) :=
  ⟨fun r _ => read16_addCycles s n r, fun _ => rfl, s.sameControl_refl, fun _ _ => rfl⟩

theorem keeps16_writeLatch (w : Word) : s.Keeps16 written keepsAF stored (s.writeLatch w) :=
  ⟨fun r _ => read16_writeLatch s w r, fun _ => rfl, s.sameControl_refl, fun _ _ => rfl⟩

theorem keeps16_writePC (w : Word) : s.Keeps16 written keepsAF stored (s.writePC w) :=
  ⟨fun r _ => read16_writePC s w r, fun _ => rfl, s.sameControl_refl, fun _ _ => rfl⟩

theorem keeps16_writeA (hAF : ¬ keepsAF) (v : Byte) : s.Keeps16 written keepsAF stored (s.writeA v) :=
  ⟨fun r _ => read16_writeA s v r, fun h => absurd h hAF, s.sameControl_refl, fun _ _ => rfl⟩

theorem keeps16_writeF (hAF : ¬ keepsAF) (v : Byte) : s.Keeps16 written keepsAF stored (s.writeF v) :=
  ⟨fun r _ => read16_writeF s v r, fun h => absurd h hAF, s.sameControl_refl, fun _ _ => rfl⟩

theorem keeps16_write16 {r : Reg16} (hr : r ∈ written) (w : Word) :
    s.Keeps16 written keepsAF stored (s.write16 r w) where
  read16 q hq := State.write16_read16_of_ne s r q w fun h => hq (h ▸ hr)
  af _ := by simp
  control := by simp [State.sameControl]
  bytes a _ := byteAt_write16 s r w a

theorem keeps16_writeSP (hsp : .sp ∈ written) (w : Word) : s.Keeps16 written keepsAF stored (s.writeSP w) :=
  keeps16_write16 hsp w

theorem keeps16_afterRead (a : Word) (g : Tag) : s.Keeps16 written keepsAF stored (s.afterRead a g) :=
  ⟨fun r _ => read16_afterRead s a g r, fun _ => rfl, s.sameControl_refl, fun _ _ => rfl⟩

theorem keeps16_afterRead16 (a : Word) : s.Keeps16 written keepsAF stored (s.afterRead16 a) :=
  (keeps16_afterRead a .data).trans (keeps16_afterRead (a + 1) .data)

theorem keeps16_afterWrite {a : Word} (ha : a ∈ stored) (v : Byte) (g : Tag) :
    s.Keeps16 written keepsAF stored (s.afterWrite a v g) where
  read16 r _ := by cases r <;> rfl
  af _ := rfl
  control := s.sameControl_refl
  bytes b hb := (byteAt_afterWrite s a b v g).trans (if_neg fun h : b = a => hb (h ▸ ha))

theorem keeps16_afterPortRead (p v : Byte) : s.Keeps16 written keepsAF stored (s.afterPortRead p v) :=
  ⟨fun r _ => by cases r <;> rfl, fun _ => rfl, s.sameControl_refl, fun _ _ => rfl⟩

theorem keeps16_afterPortWrite (p v : Byte) : s.Keeps16 written keepsAF stored (s.afterPortWrite p v) :=
  ⟨fun r _ => by cases r <;> rfl, fun _ => rfl, s.sameControl_refl, fun _ _ => rfl⟩

theorem keeps16_afterPop (hsp : .sp ∈ written) : s.Keeps16 written keepsAF stored s.afterPop :=
  (((keeps16_afterRead _ _).trans (keeps16_writeSP hsp _)).trans (keeps16_afterRead _ _)).trans (keeps16_writeSP hsp _)

/-- 20 R71: a push stores the two bytes below `SP`. -/
theorem keeps16_afterPush {p : Word} (hp : s.sp = p) (w : Word) :
    s.Keeps16 [.sp] keepsAF [p + 0xFFFF, p + 0xFFFE] (s.afterPush w) := by
  subst hp
  have hsp : Reg16.sp ∈ [Reg16.sp] := List.mem_singleton_self _
  exact (((keeps16_writeSP hsp _).trans (keeps16_afterWrite List.mem_cons_self _ _)).trans
    (keeps16_writeSP hsp _)).trans (keeps16_afterWrite (List.mem_cons_of_mem _ List.mem_cons_self) _ _)

theorem keeps16_relativeJump (d : Byte) : s.Keeps16 written keepsAF stored (s.relativeJump d) :=
  (keeps16_writeLatch _).trans (keeps16_writePC _)

/-- `B` is a half of `BC`. -/
theorem keeps16_write8_b (hbc : .bc ∈ written) (v : Byte) : s.Keeps16 written keepsAF stored (s.write8 .b v) :=
  keeps16_write16 hbc (joinBytes v (loByte s.bc))

/-! ## The stores and the pushes (42, 46) -/

theorem storeAPair_keeps {p : Reg16} {n : Nat} (href : s.onRefBus) (h : storeAPair p n s = .next t) :
    s.Keeps16 [] keepsAF [s.read16 p] t := by
  rw [storeAPair_ref href] at h
  cases h
  exact (keeps16_afterWrite List.mem_cons_self _ _).trans (keeps16_addCycles _)

theorem storeAMem_keeps {nn : Word} {n : Nat} (href : s.onRefBus) (h : storeAMem nn n s = .next t) :
    s.Keeps16 [] keepsAF [nn] t := by
  rw [storeAMem_ref href] at h
  cases h
  exact ((keeps16_writeLatch _).trans (keeps16_afterWrite List.mem_cons_self _ _)).trans (keeps16_addCycles _)

theorem storeMem16_keeps {x : HLX} {nn : Word} (href : s.onRefBus) (h : exec (Form.storeMem16 nn x) s = .next t) :
    s.Keeps16 [] keepsAF [nn, nn + 1] t := by
  rw [exec_storeMem16, storeMem16_ref href] at h
  cases h
  exact (((keeps16_writeLatch _).trans (keeps16_afterWrite List.mem_cons_self _ _)).trans
    (keeps16_afterWrite (List.mem_cons_of_mem _ List.mem_cons_self) _ _)).trans (keeps16_addCycles _)

/-- What a push leaves: the two bytes below `SP` are stored, and `SP` is two lower. -/
structure State.Pushed (s t : State) : Prop where
  keeps : s.Keeps16 [.sp] True [s.sp + 0xFFFF, s.sp + 0xFFFE] t
  sp : t.sp = s.sp + 0xFFFE

theorem pushed_afterPush (w : Word) : s.Pushed (s.afterPush w) := ⟨keeps16_afterPush rfl w, rfl⟩

/-- A jump and the cost after the push. -/
theorem State.Pushed.goto (h : s.Pushed t) (w : Word) (n : Nat) : s.Pushed ((t.writePC w).addCycles n) :=
  ⟨(h.keeps.trans (keeps16_writePC w)).trans (keeps16_addCycles n), h.sp⟩

theorem push_pushed {r : StackReg} (href : s.onRefBus) (h : exec (Form.push r) s = .next t) : s.Pushed t := by
  rw [exec_push, pushReg_ref href] at h
  cases h
  exact ⟨(keeps16_afterPush rfl _).trans (keeps16_addCycles _), rfl⟩

theorem callTo_pushed {nn : Word} {n : Nat} (href : s.onRefBus) (h : callTo nn n s = .next t) : s.Pushed t := by
  rw [callTo_ref href] at h
  cases h
  have hpushed : s.Pushed ((s.writeLatch nn).afterPush s.pc) :=
    ⟨(keeps16_writeLatch nn).trans (keeps16_afterPush (State.writeLatch_sp s nn) _), rfl⟩
  exact hpushed.goto _ _

theorem restart_pushed {y : Oct} (href : s.onRefBus) (h : exec (Form.restart y) s = .next t) : s.Pushed t := by
  rw [exec_restart, restart_ref href] at h
  cases h
  exact (pushed_afterPush s.pc).goto _ _

/-- 46 R321: a call not taken writes no register but `LATCH`. -/
theorem callCond_pushed {nn : Word} {cc : Cond} (href : s.onRefBus) (h : exec (Form.callCond nn cc) s = .next t) :
    s.Keeps16 [] True [] t ∨ s.Pushed t := by
  rw [exec_callCond] at h
  cases hcc : condHolds s.readF cc with
  | true => exact .inr (callTo_pushed href ((callCond_of_holds hcc nn 10 17).symm.trans h))
  | false =>
    rw [callCond_of_not_holds hcc] at h
    cases h
    exact .inl ((keeps16_writeLatch nn).trans (keeps16_addCycles _))

end

/-- What O46 says of a form that writes at most `SP` of the 16-bit registers. -/
theorem State.Keeps16.frame {written : List Reg16} {stored : List Word} {s t : State}
    (h : s.Keeps16 written True stored t) (hwritten : ∀ r ∈ written, r = .sp) :
    (∀ b, b ∉ stored → t.byteAt b = s.byteAt b) ∧ t.af = s.af ∧ t.bc = s.bc ∧ t.de = s.de ∧ t.hl = s.hl ∧ t.ix = s.ix ∧
      s.sameControl t :=
  have hother (r : Reg16) (hr : r ≠ .sp) : t.read16 r = s.read16 r := h.read16 r fun hmem => hr (hwritten r hmem)
  ⟨h.bytes, h.af trivial, hother .bc nofun, hother .de nofun, hother .hl nofun, hother .ix nofun, h.control⟩

/-- Settles O46: a store writes no register, and a push only `SP`. -/
theorem frameStoreWord : Obligations.FrameStoreWord := by
  intro i s t stored hi href h
  have hkeeps : s.Keeps16 [] True stored t ∨ stored = [s.sp + 0xFFFF, s.sp + 0xFFFE] ∧ s.Pushed t := by
    obtain ⟨rfl, rfl⟩ | ⟨rfl, rfl⟩ | ⟨nn, rfl, rfl⟩ | ⟨x, nn, rfl, rfl⟩ |
      ⟨⟨r, rfl⟩ | ⟨nn, rfl⟩ | ⟨nn, cc, rfl⟩ | ⟨y, rfl⟩, rfl⟩ := hi
    · exact .inl (storeAPair_keeps (p := .bc) href h)
    · exact .inl (storeAPair_keeps (p := .de) href h)
    · exact .inl (storeAMem_keeps href h)
    · exact .inl (storeMem16_keeps href h)
    · exact .inr ⟨rfl, push_pushed href h⟩
    · exact .inr ⟨rfl, callTo_pushed href h⟩
    · obtain hskipped | htaken := callCond_pushed href h
      · exact .inl { hskipped with bytes := fun a _ => hskipped.bytes a List.not_mem_nil }
      · exact .inr ⟨rfl, htaken⟩
    · exact .inr ⟨rfl, restart_pushed href h⟩
  obtain hstores | ⟨rfl, hpushed⟩ := hkeeps
  · obtain ⟨hbytes, haf, hbc, hde, hhl, hix, hcontrol⟩ := hstores.frame nofun
    exact ⟨hbytes, haf, hbc, hde, hhl, hix, hcontrol, .inl (hstores.read16 .sp List.not_mem_nil)⟩
  · obtain ⟨hbytes, haf, hbc, hde, hhl, hix, hcontrol⟩ := hpushed.keeps.frame fun r => List.mem_singleton.1
    exact ⟨hbytes, haf, hbc, hde, hhl, hix, hcontrol, .inr ⟨hpushed.sp, rfl⟩⟩

end Sys2Proof.Machine
end

section
/-! PROOFS. O47: the frame of the forms that change no byte of memory, by what each update keeps. -/

namespace Sys2Proof.Machine

section
variable {written : List Reg16} {keepsAF : Prop} {s t : State}

/-! ## The 16-bit registers and the accumulator (42, 43) -/

theorem loadPair_keeps {r : Reg16} {nn : Word} (hr : r ∈ written) (h : exec (Form.loadPair nn r) s = .next t) :
    s.Keeps16 written keepsAF [] t := by
  rw [exec_loadPair] at h
  cases h
  exact (keeps16_write16 hr _).trans (keeps16_addCycles _)

theorem loadMem16_keeps {x : HLX} {nn : Word} (href : s.onRefBus) (hx : hlxReg x ∈ written)
    (h : exec (Form.loadMem16 nn x) s = .next t) : s.Keeps16 written keepsAF [] t := by
  rw [exec_loadMem16, loadMem16_ref href] at h
  cases h
  exact (((keeps16_writeLatch _).trans (keeps16_afterRead16 _)).trans (keeps16_write16 hx _)).trans
    (keeps16_addCycles _)

theorem loadSP_keeps {x : HLX} (hsp : .sp ∈ written) (h : exec (Form.loadSP x) s = .next t) :
    s.Keeps16 written keepsAF [] t := by
  rw [exec_loadSP] at h
  cases h
  exact (keeps16_writeSP hsp _).trans (keeps16_addCycles _)

theorem add16_keeps {x : HLX} {p : Pair} (hx : hlxReg x ∈ written) (hAF : ¬ keepsAF)
    (h : exec (Form.add16 x p) s = .next t) : s.Keeps16 written keepsAF [] t := by
  rw [exec_add16] at h
  cases h
  exact ((keeps16_write16 hx _).trans (keeps16_writeF hAF _)).trans (keeps16_addCycles _)

theorem inc16_keeps {r : Reg16} (hr : r ∈ written) (h : exec (Form.inc16 r) s = .next t) :
    s.Keeps16 written keepsAF [] t := by
  rw [exec_inc16] at h
  cases h
  exact (keeps16_write16 hr _).trans (keeps16_addCycles _)

theorem dec16_keeps {r : Reg16} (hr : r ∈ written) (h : exec (Form.dec16 r) s = .next t) :
    s.Keeps16 written keepsAF [] t := by
  rw [exec_dec16] at h
  cases h
  exact (keeps16_write16 hr _).trans (keeps16_addCycles _)

theorem loadAPair_keeps {p : Reg16} {n : Nat} (href : s.onRefBus) (hAF : ¬ keepsAF)
    (h : loadAPair p n s = .next t) : s.Keeps16 written keepsAF [] t := by
  rw [loadAPair_ref href] at h
  cases h
  exact ((keeps16_afterRead _ _).trans (keeps16_writeA hAF _)).trans (keeps16_addCycles _)

theorem loadAMem_keeps {nn : Word} {n : Nat} (href : s.onRefBus) (hAF : ¬ keepsAF)
    (h : loadAMem nn n s = .next t) : s.Keeps16 written keepsAF [] t := by
  rw [loadAMem_ref href] at h
  cases h
  exact (((keeps16_writeLatch _).trans (keeps16_afterRead _ _)).trans (keeps16_writeA hAF _)).trans
    (keeps16_addCycles _)

theorem inPort_keeps {p : Byte} {n : Nat} (href : s.onRefBus) (hAF : ¬ keepsAF)
    (h : inPort p n s = .next t) : s.Keeps16 written keepsAF [] t := by
  rw [inPort_ref href.2] at h
  cases h
  exact ((keeps16_afterPortRead _ _).trans (keeps16_writeA hAF _)).trans (keeps16_addCycles _)

theorem outPort_keeps {p : Byte} {n : Nat} (href : s.onRefBus) (h : outPort p n s = .next t) :
    s.Keeps16 written keepsAF [] t := by
  rw [outPort_ref href.2] at h
  cases h
  exact (keeps16_afterPortWrite _ _).trans (keeps16_addCycles _)

/-- `CPL`, `SCF` and `CCF` write one half of `AF`. -/
theorem accumulator_keeps {i : Instr} (hi : i = .cpl ∨ i = .scf ∨ i = .ccf) (hAF : ¬ keepsAF)
    (h : exec i s = .next t) : s.Keeps16 written keepsAF [] t := by
  obtain rfl | rfl | rfl := hi
  · cases h
    exact (keeps16_writeA hAF _).trans (keeps16_addCycles 4)
  · cases h
    exact (keeps16_writeF hAF _).trans (keeps16_addCycles 4)
  · cases h
    exact (keeps16_writeF hAF _).trans (keeps16_addCycles 4)

/-! ## The stack (42 R231; 46 R324, R325) -/

theorem pop_keeps {r : StackReg} (href : s.onRefBus) (hsp : .sp ∈ written)
    (hr : ∀ (u : State) (w : Word), u.Keeps16 written keepsAF [] (u.writeStackReg r w))
    (h : exec (Form.pop r) s = .next t) : s.Keeps16 written keepsAF [] t := by
  rw [exec_pop, popReg_ref href] at h
  cases h
  exact ((keeps16_afterPop hsp).trans (hr _ _)).trans (keeps16_addCycles _)

theorem keeps16_writeAF (hAF : ¬ keepsAF) (w : Word) : s.Keeps16 written keepsAF [] (s.writeStackReg .af w) :=
  ⟨fun r _ => by cases r <;> rfl, fun h => absurd h hAF, s.sameControl_refl, fun _ _ => rfl⟩

theorem ret_keeps {n : Nat} (href : s.onRefBus) (hsp : .sp ∈ written) (h : ret n s = .next t) :
    s.Keeps16 written keepsAF [] t := by
  rw [ret_ref href] at h
  cases h
  exact ((keeps16_afterPop hsp).trans (keeps16_writePC _)).trans (keeps16_addCycles _)

theorem retCond_keeps {cc : Cond} (href : s.onRefBus) (hsp : .sp ∈ written)
    (h : exec (Form.retCond cc) s = .next t) : s.Keeps16 written keepsAF [] t := by
  rw [exec_retCond] at h
  cases hcc : condHolds s.readF cc with
  | true => exact ret_keeps href hsp ((retCond_of_holds hcc 5 11).symm.trans h)
  | false =>
    rw [retCond_of_not_holds hcc] at h
    cases h
    exact keeps16_addCycles _

/-! ## The jumps (46 R310 to R316) -/

theorem jumpCond_keeps {nn : Word} {cc : Cond} (h : exec (Form.jumpCond nn cc) s = .next t) :
    s.Keeps16 written keepsAF [] t := by
  rw [exec_jumpCond, jumpCond] at h
  cases h
  split
  · exact ((keeps16_writeLatch nn).trans (keeps16_writePC nn)).trans (keeps16_addCycles _)
  · exact (keeps16_writeLatch nn).trans (keeps16_addCycles _)

theorem jumpReg_keeps {x : HLX} (h : exec (Form.jumpReg x) s = .next t) : s.Keeps16 written keepsAF [] t := by
  rw [exec_jumpReg] at h
  cases h
  exact (keeps16_writePC _).trans (keeps16_addCycles _)

theorem jumpRelCond_keeps {d : Byte} {cc : RelCond} (h : exec (Form.jumpRelCond d cc) s = .next t) :
    s.Keeps16 written keepsAF [] t := by
  rw [exec_jumpRelCond, jumpRelCond] at h
  split at h <;> cases h
  · exact (keeps16_relativeJump d).trans (keeps16_addCycles _)
  · exact keeps16_addCycles _

theorem djnz_keeps {d : Byte} (hbc : .bc ∈ written) (h : exec (.djnz d) s = .next t) :
    s.Keeps16 written keepsAF [] t := by
  rw [exec_djnz, decJump_eq] at h
  split at h <;> cases h
  · exact (keeps16_write8_b hbc _).trans (keeps16_addCycles _)
  · exact ((keeps16_write8_b hbc _).trans (keeps16_relativeJump d)).trans (keeps16_addCycles _)

end

/-- What O47 says, of a form that leaves `IFF`. -/
theorem State.Keeps16.wordFrame {written : List Reg16} {writesAF : Bool} {s t : State} {i : Instr}
    (h : s.Keeps16 written (writesAF = false) [] t) :
    (∀ r, r ∉ written → t.read16 r = s.read16 r) ∧ (writesAF = false → t.af = s.af) ∧
      (∀ a, t.byteAt a = s.byteAt a) ∧ s.sameControl { t with iff := s.iff } ∧ (i ≠ .reti → t.iff = s.iff) := by
  obtain ⟨hafAlt, hbcAlt, hdeAlt, hhlAlt, hi, him, hiff, hrest⟩ := h.control
  exact ⟨h.read16, h.af, fun a => h.bytes a List.not_mem_nil, ⟨hafAlt, hbcAlt, hdeAlt, hhlAlt, hi, him, rfl, hrest⟩,
    fun _ => hiff⟩

/-- 47 R348: `RETI` is a return that also sets `IFF`. -/
theorem reti_eq_ret {s t : State} (href : s.onRefBus) (h : exec .reti s = .next t) :
    ∃ u, ret 10 s = .next u ∧ t = u.writeIFF true := by
  have hexec : exec .reti s = returnEnable 10 s := rfl
  rw [hexec, returnEnable_ref href] at h
  cases h
  exact ⟨_, ret_ref href 10, rfl⟩

/-- Settles O47: each form by its updates; `RETI` is `RET` but for `IFF`. -/
theorem frameWordRegisters : Obligations.FrameWordRegisters := by
  intro i written writesAF hi s t href h
  have hkeeps : s.Keeps16 written (writesAF = false) [] t ∨ (i = .reti ∧ written = [.sp] ∧ writesAF = false) := by
    have hself (r : Reg16) : r ∈ [r] := List.mem_singleton_self r
    have hsp (r : Reg16) : .sp ∈ [r, .sp] := List.mem_cons_of_mem r (hself .sp)
    have hhead (r : Reg16) : r ∈ [r, .sp] := List.mem_cons_self
    obtain ⟨r, nn, rfl, rfl, -⟩ | ⟨x, nn, rfl, rfl, -⟩ | ⟨x, rfl, rfl, -⟩ | ⟨hloads, rfl, rfl⟩ | ⟨rfl, rfl, -⟩ |
      ⟨rfl, rfl, -⟩ | ⟨rfl, rfl, -⟩ | ⟨rfl, rfl, -⟩ | ⟨rfl, rfl, rfl⟩ | ⟨rfl | rfl | ⟨cc, rfl⟩, rfl, rfl⟩ |
      ⟨x, p, rfl, rfl, rfl⟩ | ⟨r, rfl | rfl, rfl, -⟩ | ⟨hjumps, rfl, -⟩ | ⟨d, rfl, rfl, -⟩ := hi
    · exact .inl (loadPair_keeps (hself r) h)
    · exact .inl (loadMem16_keeps href (hself _) h)
    · exact .inl (loadSP_keeps (hself _) h)
    · obtain rfl | rfl | ⟨nn, rfl⟩ | ⟨n, rfl⟩ | haf := hloads
      · exact .inl (loadAPair_keeps (p := .bc) href nofun h)
      · exact .inl (loadAPair_keeps (p := .de) href nofun h)
      · exact .inl (loadAMem_keeps href nofun h)
      · exact .inl (inPort_keeps href nofun h)
      · exact .inl (accumulator_keeps haf nofun h)
    · exact .inl (pop_keeps href (hsp _) (fun u w => keeps16_write16 (r := .bc) (hhead _) w) h)
    · exact .inl (pop_keeps href (hsp _) (fun u w => keeps16_write16 (r := .de) (hhead _) w) h)
    · exact .inl (pop_keeps href (hsp _) (fun u w => keeps16_write16 (r := .hl) (hhead _) w) h)
    · exact .inl (pop_keeps href (hsp _) (fun u w => keeps16_write16 (r := .ix) (hhead _) w) h)
    · exact .inl (pop_keeps href (hself _) (fun u w => keeps16_writeAF nofun w) h)
    · exact .inl (ret_keeps href (hself _) h)
    · exact .inr ⟨rfl, rfl, rfl⟩
    · exact .inl (retCond_keeps href (hself _) h)
    · exact .inl (add16_keeps (hself _) nofun h)
    · exact .inl (inc16_keeps (hself r) h)
    · exact .inl (dec16_keeps (hself r) h)
    · obtain ⟨n, rfl⟩ | ⟨nn, rfl⟩ | ⟨nn, cc, rfl⟩ | ⟨x, rfl⟩ | ⟨d, rfl⟩ | ⟨d, cc, rfl⟩ := hjumps
      · exact .inl (outPort_keeps href h)
      · cases h
        exact .inl (((keeps16_writeLatch nn).trans (keeps16_writePC nn)).trans (keeps16_addCycles 10))
      · exact .inl (jumpCond_keeps h)
      · exact .inl (jumpReg_keeps h)
      · cases h
        exact .inl ((keeps16_relativeJump d).trans (keeps16_addCycles 12))
      · exact .inl (jumpRelCond_keeps h)
    · exact .inl (djnz_keeps (hself _) h)
  obtain hkeeps | ⟨rfl, rfl, rfl⟩ := hkeeps
  · exact hkeeps.wordFrame
  · obtain ⟨u, hret, rfl⟩ := reti_eq_ret href h
    have hkept : s.Keeps16 [.sp] (false = false) [] u := ret_keeps href (List.mem_singleton_self _) hret
    obtain ⟨hregs, haf, hbytes, hcontrol, -⟩ := hkept.wordFrame (i := .ret)
    exact ⟨fun r hr => (read16_writeIFF u true r).trans (hregs r hr), haf, hbytes, hcontrol, fun hne => absurd rfl hne⟩

end Sys2Proof.Machine
end
